-- ==== Sys2Proof/Word.lean ====
section
/-! DEFINITION. The bit-vector types of the chip: bytes, register addresses, filter words. -/

namespace Sys2Proof

/-- A register, an SPI byte, a payload byte: every register is 8 bits wide (R21). -/
abbrev Byte := BitVec 8

/-- A register address: the address space is 7 bits wide, "wraps every 128" (R80). -/
abbrev Addr := BitVec 7

/-- The 32-bit word of the filter equation (R17, R256) and of a packed frame identifier (R250). -/
abbrev Word := BitVec 32

end Sys2Proof
end

