-- ==== Sys2Proof/Config.lean ====
section
/-! DEFINITION. The structural parameters of 00_scope.md R10, which the source fixes. The parameters whose value is a
decision of the spec stand in Machine/Parameters.lean, where a later repair may mend them. -/

namespace Sys2Proof.Config

/-- `ADDR_BITS` (R10, source §6). -/
def addrBits : Nat := 7

/-- `N_TX`: transmit buffers (R10, source §3). -/
abbrev nTx : Nat := 3

/-- `N_RX`: receive buffers (R10, source §3). -/
abbrev nRx : Nat := 2

/-- `N_FILTER`: acceptance filters (R10, source §3, §4.3). -/
abbrev nFilter : Nat := 6

/-- `N_MASK`: acceptance masks; mask n belongs to RX buffer n (R10). -/
abbrev nMask : Nat := 2

/-- `N_SPI_STATES`: named protocol states (R10, R60). -/
def nSpiStates : Nat := 10

end Sys2Proof.Config
end

