-- ==== Sys2Proof/Syntax.lean ====
section
/-! DEFINITION. The commands (one constructor per row of spec/opcode_table.json), the opcode table as data, and the
CAN frame record, which R133 calls the second encoding of this hardware. -/

namespace Sys2Proof

/-- An SPI command: what the first byte after chip-select assertion stands for (R120, R124). The operand bytes are
later events (R130), so a command carries only the fields of its command byte (R123). -/
inductive Instr where
  /-- RESET, `0xC0` (R200). -/
  | reset
  /-- READ, `0x03` (R150). -/
  | read
  /-- WRITE, `0x02` (R151). -/
  | write
  /-- BIT MODIFY, `0x05` (R161). -/
  | bitmod
  /-- READ RX BUFFER, `1001 0nm0`: `n` the RX buffer, `m` where to start, 0 sidh, 1 d0 (R123, R180). -/
  | rdrxb (n m : BitVec 1)
  /-- LOAD TX BUFFER with pointer 0 to 3, `0100 00bc` (R185). -/
  | ldtxbLow (bc : BitVec 2)
  /-- LOAD TX BUFFER with pointer 4 or 5, `0100 010c` (R185). -/
  | ldtxbHigh (c : BitVec 1)
  /-- RTS, `1000 0nnn`: bit `i` of the bitmap requests TX buffer `i` (R203). -/
  | rts (nnn : BitVec 3)
  /-- READ STATUS, `0xA0` (R206). -/
  | rdstat
  /-- RX STATUS, `0xB0` (R209). -/
  | rxstat
  /-- Any of the 232 command bytes that are no command (R205, R128). -/
  | invalid (b : Byte)
deriving DecidableEq, Repr

/-- One row of the opcode table: a command byte `b` fits when `b &&& mask = pattern`. -/
structure OpcodeRow where
  mnemonic : String
  mask : Byte
  pattern : Byte
deriving DecidableEq, Repr

/-- spec/opcode_table.json in its own order; a byte belongs to the FIRST row it fits (30_encoding.md, opening). -/
def opcodeTable : List OpcodeRow :=
  [⟨"RESET", 0xFF, 0xC0⟩, ⟨"READ", 0xFF, 0x03⟩, ⟨"WRITE", 0xFF, 0x02⟩, ⟨"BITMOD", 0xFF, 0x05⟩,
   ⟨"RDRXB", 0xF9, 0x90⟩, ⟨"LDTXB", 0xFC, 0x40⟩, ⟨"LDTXB", 0xFE, 0x44⟩, ⟨"RTS", 0xF8, 0x80⟩,
   ⟨"RDSTAT", 0xFF, 0xA0⟩, ⟨"RXSTAT", 0xFF, 0xB0⟩, ⟨"INVALID", 0x00, 0x00⟩]

/-- The row of the opcode table that a constructor stands for. -/
def Instr.row : Instr → Nat
  | .reset => 0
  | .read => 1
  | .write => 2
  | .bitmod => 3
  | .rdrxb _ _ => 4
  | .ldtxbLow _ => 5
  | .ldtxbHigh _ => 6
  | .rts _ => 7
  | .rdstat => 8
  | .rxstat => 9
  | .invalid _ => 10

/-- A CAN frame as it crosses the bus interface in either direction (R250, D22; log 18). -/
structure Frame where
  /-- Identifier; only bits 10:0 are used when `ext` is false. -/
  id : BitVec 29
  /-- Extended frame (29-bit identifier). -/
  ext : Bool
  /-- Remote-transmission request. -/
  rtr : Bool
  /-- The bus layer marks this as an error frame. -/
  err : Bool
  /-- Generic flags of the bus layer; only zero or non-zero matters. -/
  flags : BitVec 8
  /-- Explicit length (4 bits); a length above 8 is handled as 8 (R250, U5). -/
  len : BitVec 4
  /-- Payload; the first `len` bytes are meaningful. -/
  data : Vector Byte 8
deriving DecidableEq, Repr

end Sys2Proof
end

