-- ==== Sys2Proof/WellFormed.lean ====
section
/-! DEFINITION. Which commands are well-formed: every field of a command byte fills its bits, so the one check is that
`invalid b` stands for a byte that R125 does not list as valid. -/

namespace Sys2Proof

/-- The 24 valid command bytes of R125. -/
def validCommandBytes : List Byte :=
  [0x02, 0x03, 0x05,
   0x40, 0x41, 0x42, 0x43, 0x44, 0x45,
   0x80, 0x81, 0x82, 0x83, 0x84, 0x85, 0x86, 0x87,
   0x90, 0x92, 0x94, 0x96, 0xA0, 0xB0, 0xC0]

/-- A command term the encoding can write: `invalid b` only for a byte outside `validCommandBytes` (R128, R205). -/
def Instr.wellFormed : Instr → Bool
  | .invalid b => !validCommandBytes.contains b
  | .reset => true
  | .read => true
  | .write => true
  | .bitmod => true
  | .rdrxb _ _ => true
  | .ldtxbLow _ => true
  | .ldtxbHigh _ => true
  | .rts _ => true
  | .rdstat => true
  | .rxstat => true

end Sys2Proof
end

