-- ==== Sys2Proof/Decode.lean ====
section
/-! DEFINITION. The command decoder (R124), total on any bytes, then the encoder, then the two functions by which the
host lays a table word out as bytes, and the packed form of a frame's identifier word (R250). -/

namespace Sys2Proof

/-- Why a list of bytes holds no command. Every byte value decodes (R125), so only an empty list is rejected. -/
inductive DecodeError where
  /-- There is no command byte. -/
  | noCommandByte
deriving DecidableEq, Repr

/-- Decoding of the command byte `b` (R124); the value sets are disjoint, so the order of the tests does not matter.
The buffer pointer and bitmap fields are those of R123. -/
def decodeByte (b : Byte) : Instr :=
  if b = 0xC0 then .reset
  else if b = 0x03 then .read
  else if b = 0x02 then .write
  else if b = 0x90 ∨ b = 0x92 ∨ b = 0x94 ∨ b = 0x96 then .rdrxb (b.extractLsb' 2 1) (b.extractLsb' 1 1)
  else if b.toNat ∈ [0x40, 0x41, 0x42, 0x43] then .ldtxbLow (b.extractLsb' 0 2)
  else if b = 0x44 ∨ b = 0x45 then .ldtxbHigh (b.extractLsb' 0 1)
  else if 0x80 ≤ b.toNat ∧ b.toNat ≤ 0x87 then .rts (b.extractLsb' 0 3)
  else if b = 0xA0 then .rdstat
  else if b = 0xB0 then .rxstat
  else if b = 0x05 then .bitmod
  else .invalid b

/-- The command at the head of a byte stream and the bytes after it (its operand bytes, R120). -/
def decode : List Byte → Except DecodeError (Instr × List Byte)
  | [] => .error .noCommandByte
  | b :: rest => .ok (decodeByte b, rest)

/-- The command byte of a command, from the patterns of R123 and the value sets of R124. -/
def encodeByte : Instr → Byte
  | .reset => 0xC0
  | .read => 0x03
  | .write => 0x02
  | .bitmod => 0x05
  | .rdrxb n m => 0x90#8 ||| (n.setWidth 8 <<< 2) ||| (m.setWidth 8 <<< 1)
  | .ldtxbLow bc => 0x40#8 ||| bc.setWidth 8
  | .ldtxbHigh c => 0x44#8 ||| c.setWidth 8
  | .rts nnn => 0x80#8 ||| nnn.setWidth 8
  | .rdstat => 0xA0
  | .rxstat => 0xB0
  | .invalid b => b

/-- The bytes of a command: one command byte (its operand bytes are not part of it, R130). -/
def encode (i : Instr) : List Byte := [encodeByte i]

/-- The `n` lowest bytes of `w`, the first byte being bits 7:0. -/
def wordBytes : Nat → Nat → List Byte
  | 0, _ => []
  | n + 1, w => BitVec.ofNat 8 w :: wordBytes n (w / 256)

/-- A table word as the bytes the SPI master clocks, first byte first; at least the one byte of a command. -/
def tableBytes (nbits w : Nat) : List Byte := wordBytes (max 1 (nbits / 8)) w

/-- The command this decoder reads from an opcode-table word. -/
def decodeTableWord (nbits w : Nat) : Option Instr :=
  match decode (tableBytes nbits w) with
  | .ok (i, _) => some i
  | .error _ => none

/-- The packed 32-bit identifier word of a frame: bit 31 ext, bit 30 rtr, bit 29 err, bits 28:0 id (R250, D22). -/
def Frame.idWord (f : Frame) : Word :=
  ((BitVec.ofBool f.ext).setWidth 32 <<< 31) ||| ((BitVec.ofBool f.rtr).setWidth 32 <<< 30) |||
    ((BitVec.ofBool f.err).setWidth 32 <<< 29) ||| f.id.setWidth 32

/-- The frame whose identifier word is `w`, with the given flags, length and payload (R250, D22). -/
def Frame.ofIdWord (w : Word) (flags : BitVec 8) (len : BitVec 4) (data : Vector Byte 8) : Frame :=
  { id := w.extractLsb' 0 29, ext := w.getLsbD 31, rtr := w.getLsbD 30, err := w.getLsbD 29,
    flags := flags, len := len, data := data }

end Sys2Proof
end

