-- ==== Sys2Proof/Machine/Parameters.lean ====
section
/-! DEFINITION. The parameters of 00_scope.md R10 whose value is a decision of the spec (D1 to D11), one field each: mode
encodings, reset defaults, the output fill byte, the policy for address bit 7, and the place of every field inside a
register. The two status-byte layouts (D13, D14) are the functions `statusByte` and `rxStatusByte` of Machine/Flags.lean;
the write masks stand in one table, `resolve` of Machine/Operands.lean (R82, U6). -/

namespace Sys2Proof.Machine

open Sys2Proof

/-! ### `MODE_ENC` (R45, D1; log 6) -/

/-- NORMAL = 0b000. -/
def modeNormal : BitVec 3 := 0b000
/-- SLEEP = 0b001. -/
def modeSleep : BitVec 3 := 0b001
/-- LOOPBACK = 0b010. -/
def modeLoopback : BitVec 3 := 0b010
/-- LISTEN = 0b011. -/
def modeListen : BitVec 3 := 0b011
/-- CONFIG = 0b100; the values 5, 6, 7 are no modes. -/
def modeConfig : BitVec 3 := 0b100

/-! ### Reset value, fill byte, address policy -/

/-- `CANCTRL_CLOCK_DEFAULT`: low bits of canctrl after reset (R36, D2; log 7). -/
def canctrlClockDefault : Byte := 0x07

/-- `SPI_FILL`: the output byte where the source states none (D12; log 12). -/
def spiFill : Byte := 0xFF

/-- What becomes of bit 7 of an address byte (R88). The spec's other policy, `unresolved`, is not this hardware's: it
needs a cursor wider than the 7 bits of R61 (Scope; R10, R87). -/
inductive AddrMsbPolicy where
  /-- The spec's `alias`: bit 7 is dropped, so address byte 0x80 + a reaches what a reaches. -/
  | dropBit7
deriving DecidableEq, Repr

/-- `ADDR_MSB_POLICY` = `alias` (D11; log 11). -/
def addrMsbPolicy : AddrMsbPolicy := .dropBit7

/-! ### canstat and canctrl (R35, R36; D2, D3; log 7, log 8) -/

/-- OPMOD of canstat and REQOP of canctrl: bits 7:5. -/
@[simp] abbrev modeShift : Nat := 5
/-- `ICOD_SHIFT`: the interrupt code is bits 3:1 of canstat. -/
@[simp] abbrev icodShift : Nat := 1
/-- ABAT in canctrl. -/
def abatBit : Nat := 4

/-! ### canintf and caninte (R41, R42; D4; log 9) -/

/-- RXnIF. -/
@[simp] abbrev rxifBit (n : Fin Config.nRx) : Nat := n.val
/-- TXnIF. -/
@[simp] abbrev txifBit (n : Fin Config.nTx) : Nat := 2 + n.val
/-- ERRIF. -/
@[simp] abbrev errifBit : Nat := 5
/-- WAKIF. -/
@[simp] abbrev wakifBit : Nat := 6
/-- MERRF. -/
@[simp] abbrev merrfBit : Nat := 7

/-! ### eflg (R43; D6; log 10) -/

/-- RXnOVR. -/
@[simp] abbrev rxovrBit (n : Fin Config.nRx) : Nat := 6 + n.val

/-! ### TX control bytes (R23; D7; log 10) -/

/-- ABTF in tx[n].ctrl. -/
def abtfBit : Nat := 6
/-- TXREQ in tx[n].ctrl. -/
def txreqBit : Nat := 3
/-- TXP, bits 1:0 of tx[n].ctrl. -/
@[simp] abbrev txpShift : Nat := 0

/-! ### RX control bytes (R28, R29; D8; log 10) -/

/-- RXM, bits 6:5 of rx[n].ctrl. -/
@[simp] abbrev rxmShift : Nat := 5
/-- RXRTR in rx[n].ctrl. -/
def rxrtrBit : Nat := 3
/-- BUKT in rx[0].ctrl. -/
def buktBit : Nat := 2
/-- BUKT1, the read-only mirror of BUKT, in rx[0].ctrl. -/
def bukt1Bit : Nat := 1
/-- FILHIT0 in rx[0].ctrl. -/
def filhit0Bit : Nat := 0

/-! ### bfpctrl (R38; D9; log 10) -/

/-- BnBFM: buffer-full mode. -/
@[simp] abbrev bfmBit (n : Fin Config.nRx) : Nat := n.val
/-- BnBFE: pin enabled. -/
@[simp] abbrev bfeBit (n : Fin Config.nRx) : Nat := 2 + n.val
/-- BnBFS: pin level outside buffer-full mode. -/
@[simp] abbrev bfsBit (n : Fin Config.nRx) : Nat := 4 + n.val

/-! ### Identifier and length bytes (R24, R25, R30, R31; D10, D19; log 10, log 16) -/

/-- EXIDE (or IDE, in an RX buffer) in sidl. -/
def exideBit : Nat := 3
/-- SRR in sidl of an RX buffer. -/
@[simp] abbrev srrBit : Nat := 4
/-- RTR in dlc. -/
def rtrBit : Nat := 6

end Sys2Proof.Machine
end

