-- ==== Sys2Proof/Machine/State.lean ====
section
/-! DEFINITION. The state of one chip instance (10_state.md R20), the events of its environment (R8), what an event
puts out, and the state after reset (R70). State is plain data: every register is held once, under its own name. -/

namespace Sys2Proof.Machine

open Sys2Proof

/-- The four identifier bytes of a filter, a mask or a buffer, in address order (R22, R33, R34). -/
structure IdRegs where
  sidh : Byte
  sidl : Byte
  eid8 : Byte
  eid0 : Byte
deriving DecidableEq, Repr

/-- A transmit or receive buffer: 14 bytes at offsets 0 (`ctrl`), 1 to 4 (`id`), 5 (`dlc`), 6 to 13 (`data`)
(R22, R27). -/
structure Buffer where
  ctrl : Byte
  id : IdRegs
  dlc : Byte
  data : Vector Byte 8
deriving DecidableEq, Repr

/-- The register file: 114 bytes (R20). `tecReg` and `recReg` are the spec's `tec` and `rec` (R37). -/
structure RegFile where
  canstat : Byte
  canctrl : Byte
  bfpctrl : Byte
  txrtsctrl : Byte
  tecReg : Byte
  recReg : Byte
  cnf1 : Byte
  cnf2 : Byte
  cnf3 : Byte
  caninte : Byte
  canintf : Byte
  eflg : Byte
  tx : Vector Buffer Config.nTx
  rx : Vector Buffer Config.nRx
  filters : Vector IdRegs Config.nFilter
  masks : Vector IdRegs Config.nMask
deriving DecidableEq, Repr

/-- The ten named states of the SPI command state machine (R60). -/
inductive SpiState where
  | awaitingInstruction
  | awaitingAddress
  | writingData
  | readingData
  | idle
  | readingStatus
  | readingRxStatus
  | awaitingModifyAddress
  | awaitingModifyMask
  | modifyingData
deriving DecidableEq, Repr

/-- The SPI session state (R60 to R64). -/
structure Session where
  /-- `spi.state` (R60). -/
  state : SpiState
  /-- `spi.addr_then_write`: the transaction began with WRITE (R62, D33). -/
  addrThenWrite : Bool
  /-- `spi.address`: the address cursor (R61). -/
  address : Addr
  /-- `spi.rx_memo`: which RX buffer a READ RX BUFFER of this transaction named (R63). -/
  rxMemo : Option (Fin Config.nRx)
  /-- `spi.modify_mask` (R64). -/
  modifyMask : Byte
deriving DecidableEq, Repr

/-- The chip-select level as the chip last saw it (R66). -/
inductive ChipSelect where
  | asserted
  | deasserted
deriving DecidableEq, Repr

/-- The levels of the three output pins (R68); `true` is level 1. -/
structure Pins where
  irq : Bool
  rx0bf : Bool
  rx1bf : Bool
deriving DecidableEq, Repr

/-- The external events (R8). -/
inductive Event where
  /-- Chip-select falling edge (R214). -/
  | csAssert
  /-- Chip-select rising edge (R215). -/
  | csDeassert
  /-- One input byte (R121). -/
  | spiByte (b : Byte)
  /-- One CAN frame from the bus collaborator (R251). -/
  | busRx (f : Frame)
  /-- Power-up or device reset (R371). -/
  | deviceReset
deriving DecidableEq, Repr

/-- A line of the diagnostic log: that it was written; its wording is "any value" (R365, U8; log 22). -/
inductive LogLine where
  /-- An invalid command byte (R331). -/
  | invalidCommand
deriving DecidableEq, Repr

/-- What one event puts out (R8); the pins stand in `Pins`. -/
structure Output where
  /-- The output byte of a `SpiByte`. -/
  miso : Option Byte
  /-- The result of a `BusRx`. -/
  accepted : Option Bool
  /-- The frames handed to `busSend`, in the order generated (R105, R298). -/
  busSent : List Frame
  /-- The diagnostic log lines (R365). -/
  log : List LogLine
deriving DecidableEq, Repr

/-- The output of an event that has put out nothing yet. -/
def Output.empty : Output := { miso := none, accepted := none, busSent := [], log := [] }

/-- The complete state (R20), with the model's own fields `pending` and `out` (log 1, log 2). -/
structure State where
  /-- The register file. -/
  reg : RegFile
  /-- The SPI session, the chip's "program counter" among it. -/
  spi : Session
  /-- The chip-select level. -/
  cs : ChipSelect
  /-- `irq_prev`: `canintf & caninte` at the last interrupt recompute (R67). -/
  irqPrev : Byte
  /-- The output pins. -/
  pin : Pins
  /-- MODEL: the events the environment will deliver, oldest first (log 1). -/
  pending : List Event
  /-- MODEL: what the last event put out (log 2). -/
  out : Output
deriving DecidableEq, Repr

/-- Why the machine stops with a fault. Nothing raises one: "No fatal errors exist in this core" (R330); the three
conditions the core detects are absorbed (`Condition`). Having no constructor is safe (log 27). -/
inductive Fault where
deriving DecidableEq, Repr

/-- Why a step has no meaning. -/
inductive Refusal where
  /-- Raised by an arm of `exec` whose instruction has no meaning yet (none is left). Safe: the run ends. -/
  | notModelled (mnemonic : String)
  /-- Raised by `spiByte` for a `SpiByte` while chip-select is de-asserted, which is outside the contract of the chip:
  "A model gives this event no step (it refuses it)" (R216, D29; log 5). Safe: the run ends. -/
  | spiByteWhileDeselected
deriving DecidableEq, Repr

/-- The conditions the core detects and absorbs (R330). -/
inductive Condition where
  /-- E1: the first byte `b` of a transaction is not a command (R331). -/
  | protocolError (b : Byte)
  /-- E2: RXM of RX buffer `n` is 0b01 or 0b10 when a frame is filtered (R334). -/
  | configError (n : Fin Config.nRx)
  /-- E3: an accepted frame finds its buffer full and cannot roll over (R335). -/
  | rxOverflow (n : Fin Config.nRx)
deriving DecidableEq, Repr

/-- The result of filtering a frame for one RX buffer (R254). -/
inductive FilterResult where
  | matched (k : Fin Config.nFilter)
  | noMatch
  | invalidConfig
deriving DecidableEq, Repr

/-- A byte of an identifier (R82, column `j`). -/
inductive IdByte where
  | sidh
  | sidl
  | eid8
  | eid0
deriving DecidableEq, Repr

/-- A byte of a buffer (R22). -/
inductive BufByte where
  | ctrl
  | id (j : IdByte)
  | dlc
  | data (j : Fin 8)
deriving DecidableEq, Repr

/-- A slot: one 8-bit storage element of the register file (R15, R82). -/
inductive Slot where
  | canstat
  | canctrl
  | bfpctrl
  | txrtsctrl
  | tecReg
  | recReg
  | cnf1
  | cnf2
  | cnf3
  | caninte
  | canintf
  | eflg
  | tx (n : Fin Config.nTx) (b : BufByte)
  | rx (n : Fin Config.nRx) (b : BufByte)
  | filter (k : Fin Config.nFilter) (j : IdByte)
  | mask (k : Fin Config.nMask) (j : IdByte)
deriving DecidableEq, Repr

/-- What the address decoder answers for an address (R82). -/
structure Resolved where
  slot : Slot
  writeMask : Byte
  configOnlyRead : Bool
  bitModifiable : Bool
deriving DecidableEq, Repr

/-- Identifier bytes after reset: 0x00 each (R70). -/
def IdRegs.reset : IdRegs := { sidh := 0x00, sidl := 0x00, eid8 := 0x00, eid0 := 0x00 }

/-- A buffer after reset: all 14 bytes 0x00 (R22, R27, R70). -/
def Buffer.reset : Buffer := { ctrl := 0x00, id := .reset, dlc := 0x00, data := Vector.replicate 8 0x00 }

/-- The register file after reset: 0x00 but for canstat = 0x80, the mode CONFIG, and canctrl = 0x87, the
request CONFIG and the clock default (R70, R370). -/
def RegFile.reset : RegFile :=
  { canstat := modeConfig.setWidth 8 <<< modeShift,
    canctrl := (modeConfig.setWidth 8 <<< modeShift) ||| canctrlClockDefault, bfpctrl := 0x00, txrtsctrl := 0x00,
    tecReg := 0x00, recReg := 0x00, cnf1 := 0x00, cnf2 := 0x00, cnf3 := 0x00,
    caninte := 0x00, canintf := 0x00, eflg := 0x00,
    tx := Vector.replicate _ .reset, rx := Vector.replicate _ .reset,
    filters := Vector.replicate _ .reset, masks := Vector.replicate _ .reset }

/-- The SPI session after `DeviceReset` (R70, R371). -/
def Session.reset : Session :=
  { state := .awaitingInstruction, addrThenWrite := false, address := 0, rxMemo := none, modifyMask := 0x00 }

/-- The pins after reset (R68, R70). -/
def Pins.reset : Pins := { irq := false, rx0bf := true, rx1bf := true }

/-- The machine right after `DeviceReset` (R70, R371), with no event pending and nothing put out (log 1, log 2). -/
def State.reset : State :=
  { reg := .reset, spi := .reset, cs := .deasserted, irqPrev := 0x00, pin := .reset, pending := [], out := .empty }

end Sys2Proof.Machine
end

