-- ==== Sys2Proof/Machine/Operands.lean ====
section
/-! DEFINITION. Bit fields, the address decoder with its write masks
(20_memory.md R82), and how operand bytes are read (30_encoding.md R126, R127). -/

namespace Sys2Proof.Machine

open Sys2Proof

/-! ### Bits of a byte (R11) -/

/-- `v[i]`. -/
def bit (v : Byte) (i : Nat) : Bool := v.getLsbD i

/-- `v` with bit `i` made `b`. -/
def setBit (v : Byte) (i : Nat) (b : Bool) : Byte :=
  if b then v ||| (1#8 <<< i) else v &&& ~~~(1#8 <<< i)

/-- A byte with bit `i` equal to `b` and every other bit 0. -/
def oneBit (i : Nat) (b : Bool) : Byte := (BitVec.ofBool b).setWidth 8 <<< i

/-! ### Fields of a register -/

/-- Bits 7:5 of canstat (active mode) or canctrl (requested mode) (R35, R36). -/
def modeField (v : Byte) : BitVec 3 := v.extractLsb' modeShift 3

/-- `v` with bits 7:5 made `m`. -/
def setModeField (v : Byte) (m : BitVec 3) : Byte := (v &&& ~~~(0x07#8 <<< modeShift)) ||| (m.setWidth 8 <<< modeShift)

/-- Bits 3:1 of canstat, the interrupt code (R35, D3; log 8). -/
def icodField (v : Byte) : BitVec 3 := v.extractLsb' icodShift 3

/-- `v` with bits 3:1 made `c`. -/
def setIcodField (v : Byte) (c : BitVec 3) : Byte := (v &&& ~~~(0x07#8 <<< icodShift)) ||| (c.setWidth 8 <<< icodShift)

/-- TXP of a TX control byte, bits 1:0 (R23). -/
def txpField (ctrl : Byte) : BitVec 2 := ctrl.extractLsb' txpShift 2

/-- RXM of an RX control byte, bits 6:5 (R28, R29). -/
def rxmField (ctrl : Byte) : BitVec 2 := ctrl.extractLsb' rxmShift 2

/-- FILHIT of rx[1].ctrl, bits 2:0 (R29). -/
def filhitField (ctrl : Byte) : BitVec 3 := ctrl.extractLsb' 0 3

/-- `ctrl` with bits 2:0 made `k` (R266). -/
def setFilhitField (ctrl : Byte) (k : BitVec 3) : Byte := (ctrl &&& 0xF8#8) ||| k.setWidth 8

/-! ### The address decoder -/

/-- Byte `j` of an identifier group: 0 sidh, 1 sidl, 2 eid8, 3 eid0 (R82). -/
def idByteOf (j : Nat) : IdByte :=
  match j with
  | 0 => .sidh
  | 1 => .sidl
  | 2 => .eid8
  | _ => .eid0

/-- The buffer byte at offset `lo` (R22): 0 ctrl, 1 to 4 the identifier, 5 dlc, 6 to 13 d0 to d7. -/
def bufByteOf (lo : Nat) : BufByte :=
  match lo with
  | 0 => .ctrl
  | 1 => .id .sidh
  | 2 => .id .sidl
  | 3 => .id .eid8
  | 4 => .id .eid0
  | 5 => .dlc
  | j + 6 => .data (Fin.ofNat 8 j)

/-- Write mask of byte `j` of a filter: 0xEB for sidl, 0xFF otherwise (R33, R82). -/
def filterMask (j : Nat) : Byte := if j = 1 then 0xEB else 0xFF

/-- Write mask of byte `j` of an acceptance mask: 0xE3 for sidl, 0xFF otherwise (R34, R82). -/
def maskMask (j : Nat) : Byte := if j = 1 then 0xE3 else 0xFF

/-- Rows 0x0_ and 0x1_ of the address map, low nibble `lo` below 14 (R82); `hi` is 0 or 1. -/
def resolveRow01 (hi lo : Nat) : Resolved :=
  if lo ≤ 11 then
    { slot := .filter (Fin.ofNat 6 (lo / 4 + (if hi = 1 then 3 else 0))) (idByteOf (lo % 4)),
      writeMask := filterMask (lo % 4), configOnlyRead := true, bitModifiable := false }
  else if hi = 0 then
    if lo = 12 then { slot := .bfpctrl, writeMask := 0x3F, configOnlyRead := false, bitModifiable := true }
    else { slot := .txrtsctrl, writeMask := 0x07, configOnlyRead := true, bitModifiable := false }
  else
    if lo = 12 then { slot := .tecReg, writeMask := 0x00, configOnlyRead := false, bitModifiable := false }
    else { slot := .recReg, writeMask := 0x00, configOnlyRead := false, bitModifiable := false }

/-- Row 0x2_ of the address map, low nibble `lo` below 14 (R82). The masks 0xFF of caninte and canintf are D4 (log 9). -/
def resolveRow2 (lo : Nat) : Resolved :=
  if lo ≤ 7 then
    { slot := .mask (Fin.ofNat 2 (lo / 4)) (idByteOf (lo % 4)),
      writeMask := maskMask (lo % 4), configOnlyRead := true, bitModifiable := false }
  else if lo = 8 then { slot := .cnf3, writeMask := 0xC7, configOnlyRead := true, bitModifiable := true }
  else if lo = 9 then { slot := .cnf2, writeMask := 0xFF, configOnlyRead := true, bitModifiable := true }
  else if lo = 10 then { slot := .cnf1, writeMask := 0xFF, configOnlyRead := true, bitModifiable := true }
  else if lo = 11 then { slot := .caninte, writeMask := 0xFF, configOnlyRead := false, bitModifiable := true }
  else if lo = 12 then { slot := .canintf, writeMask := 0xFF, configOnlyRead := false, bitModifiable := true }
  else { slot := .eflg, writeMask := 0xC0, configOnlyRead := false, bitModifiable := true }

/-- Rows 0x3_ to 0x5_: TX buffer `n`, low nibble `lo` below 14 (R82). -/
def resolveTx (n : Fin Config.nTx) (lo : Nat) : Resolved :=
  { slot := .tx n (bufByteOf lo),
    writeMask := if lo = 0 then 0x0B else if lo = 2 then 0xEB else if lo = 5 then 0x4F else 0xFF,
    configOnlyRead := false, bitModifiable := decide (lo = 0) }

/-- Rows 0x6_ and 0x7_: RX buffer `n`, low nibble `lo` below 14; all but ctrl is read-only (R82). -/
def resolveRx (n : Fin Config.nRx) (lo : Nat) : Resolved :=
  { slot := .rx n (bufByteOf lo),
    writeMask := if lo = 0 then (if n = 0 then 0x64 else 0x60) else 0x00,
    configOnlyRead := false, bitModifiable := decide (lo = 0) }

/-- The address decoder `resolve` (R81, R82): pure and total, all 128 addresses resolve (R87). The low nibble is
examined first: 14 is canstat, 15 canctrl, in every row. The mask 0xFF of canctrl is D2 (log 7). -/
def resolve (a : Addr) : Resolved :=
  let lo := a.toNat % 16
  let hi := a.toNat / 16
  if lo = 14 then { slot := .canstat, writeMask := 0x00, configOnlyRead := false, bitModifiable := false }
  else if lo = 15 then { slot := .canctrl, writeMask := 0xFF, configOnlyRead := false, bitModifiable := true }
  else match hi with
    | 0 => resolveRow01 0 lo
    | 1 => resolveRow01 1 lo
    | 2 => resolveRow2 lo
    | 3 => resolveTx 0 lo
    | 4 => resolveTx 1 lo
    | 5 => resolveTx 2 lo
    | 6 => resolveRx 0 lo
    | _ => resolveRx 1 lo

/-! ### Operand bytes -/

/-- The address operand: bits 6:0 of the byte, bit 7 dropped (R88, R126; `ADDR_MSB_POLICY` = `alias`, D11, log 11). -/
def latchAddress (b : Byte) : Addr :=
  match addrMsbPolicy with
  | .dropBit7 => b.extractLsb' 0 7

/-- The cursor after a data byte: `(a + 1) mod 128` (R89). -/
def nextAddress (a : Addr) : Addr := a + 1

/-- Start address of READ RX BUFFER by its fields `n`, `m` (R127, R180). -/
def rxStartAddress (n m : BitVec 1) : Addr :=
  if n = 0 then (if m = 0 then 0x61 else 0x66) else (if m = 0 then 0x71 else 0x76)

/-- The RX buffer that READ RX BUFFER remembers: `(b - 0x90) >> 2`, which is the field `n` (R127, R180). -/
def rxMemoOf (n : BitVec 1) : Fin Config.nRx := if n = 0 then 0 else 1

/-- The start-address table of LOAD TX BUFFER, indexed by `abc` (R127, R185). -/
def txStartTable : List Addr := [0x31, 0x36, 0x41, 0x46, 0x51, 0x56]

/-- Start address of LOAD TX BUFFER with pointer `p` (R127, R185); pointers are 0 to 5. -/
def txStartAddress (p : Nat) : Addr := txStartTable.getD p 0

end Sys2Proof.Machine
end

