-- ==== Sys2Proof/Machine/Flags.lean ====
section
/-! DEFINITION. The interrupt flags and every byte or code computed from flags: the effective set, the interrupt code,
the level of a buffer-full pin, the READ STATUS byte and the RX STATUS byte. -/

namespace Sys2Proof.Machine

open Sys2Proof

/-! ### Bits of canintf and caninte (R42, D4; log 9) -/

/-- WAKIF. -/
def flagWak : Byte := 0x01#8 <<< wakifBit
/-- ERRIF. -/
def flagErr : Byte := 0x01#8 <<< errifBit
/-- `TX0IF << n` (R299). -/
def flagTx (n : Fin Config.nTx) : Byte := 0x01#8 <<< txifBit n
/-- RX0IF for buffer 0, RX1IF for buffer 1 (R44). -/
def flagRx (n : Fin Config.nRx) : Byte := 0x01#8 <<< rxifBit n

/-- `effective`: the sources both pending and enabled (R15, R340). -/
def RegFile.effective (r : RegFile) : Byte := r.canintf &&& r.caninte

/-- The RX-full flag of RX buffer `n`: `canintf.RXnIF` (R44). -/
def RegFile.rxFull (r : RegFile) (n : Fin Config.nRx) : Bool := bit r.canintf (rxifBit n)

/-- The interrupt code of an effective set: the highest-priority source, MERR/ERR > WAKE > TX0 > TX1 > TX2 > RX0 > RX1
(R343; the numbers are D5, log 8). -/
def icod (eff : Byte) : BitVec 3 :=
  if bit eff merrfBit || bit eff errifBit then 1
  else if bit eff wakifBit then 2
  else if bit eff (txifBit 0) then 3
  else if bit eff (txifBit 1) then 4
  else if bit eff (txifBit 2) then 5
  else if bit eff (rxifBit 0) then 6
  else if bit eff (rxifBit 1) then 7
  else 0

/-- The level of pin RXnBF for buffer `i` (R345): 1 when disabled; in buffer-full mode 0 while the buffer's raw flag is
set; otherwise the level BnBFS. The bit positions of bfpctrl are R38, D9 (log 10). -/
def rxnbfLevel (r : RegFile) (i : Fin Config.nRx) : Bool :=
  if bit r.bfpctrl (bfeBit i) then
    if bit r.bfpctrl (bfmBit i) then !r.rxFull i else bit r.bfpctrl (bfsBit i)
  else true

/-- `status_byte()`, the READ STATUS byte (R208, D13; log 13). -/
def statusByte (r : RegFile) : Byte :=
  oneBit 0 (r.rxFull 0) ||| oneBit 1 (r.rxFull 1) |||
  oneBit 2 (bit r.tx[0].ctrl txreqBit) ||| oneBit 3 (bit r.canintf (txifBit 0)) |||
  oneBit 4 (bit r.tx[1].ctrl txreqBit) ||| oneBit 5 (bit r.canintf (txifBit 1)) |||
  oneBit 6 (bit r.tx[2].ctrl txreqBit) ||| oneBit 7 (bit r.canintf (txifBit 2))

/-- Bits 2:0 of the RX STATUS byte for the message in RX buffer `n` (R211): for buffer 0 its FILHIT0 bit; for buffer 1
its filter index, with 6 or 7 for a frame that carries filter index 0 or 1. -/
def rxStatusFilter (r : RegFile) (n : Fin Config.nRx) : BitVec 3 :=
  if n = 0 then (BitVec.ofBool (bit r.rx[0].ctrl filhit0Bit)).setWidth 3
  else
    let h := filhitField r.rx[1].ctrl
    if 2 ≤ h.toNat then h else 6 + h

/-- The RX buffer that bits 4:0 of the RX STATUS byte report: buffer 0 first, none when both are empty (R211). -/
def rxStatusBuffer (r : RegFile) : Option (Fin Config.nRx) :=
  if r.rxFull 0 then some 0 else if r.rxFull 1 then some 1 else none

/-- `rx_status_byte()`, the RX STATUS byte (R211, D14; log 13). Bit 5 is always 0. -/
def rxStatusByte (r : RegFile) : Byte :=
  let v := oneBit 6 (r.rxFull 0) ||| oneBit 7 (r.rxFull 1)
  match rxStatusBuffer r with
  | none => v
  | some n =>
    v ||| oneBit 4 (bit r.rx[n].id.sidl exideBit) ||| oneBit 3 (bit r.rx[n].ctrl rxrtrBit) |||
      (rxStatusFilter r n).setWidth 8

end Sys2Proof.Machine
end

