-- ==== Sys2Proof/Machine/Ops.lean ====
section
/-! DEFINITION. The shared operations: slots of the register file, the named updates of State, the masked store and the
gated read (20_memory.md R92, R94), the interrupt and pin aggregator (60_exceptions.md R341, R345), the absorbed
conditions (R330 to R335) and full reset (70_reset_and_hazards.md R370). -/

namespace Sys2Proof.Machine

open Sys2Proof

/-! ### Slots -/

/-- Byte `j` of an identifier group. -/
def IdRegs.get (r : IdRegs) : IdByte → Byte
  | .sidh => r.sidh
  | .sidl => r.sidl
  | .eid8 => r.eid8
  | .eid0 => r.eid0

/-- An identifier group with byte `j` made `v`. -/
def IdRegs.set (r : IdRegs) (j : IdByte) (v : Byte) : IdRegs :=
  match j with
  | .sidh => { r with sidh := v }
  | .sidl => { r with sidl := v }
  | .eid8 => { r with eid8 := v }
  | .eid0 => { r with eid0 := v }

/-- One byte of a buffer. -/
def Buffer.get (t : Buffer) : BufByte → Byte
  | .ctrl => t.ctrl
  | .id j => t.id.get j
  | .dlc => t.dlc
  | .data j => t.data[j]

/-- A buffer with one byte made `v`. -/
def Buffer.set (t : Buffer) (b : BufByte) (v : Byte) : Buffer :=
  match b with
  | .ctrl => { t with ctrl := v }
  | .id j => { t with id := t.id.set j v }
  | .dlc => { t with dlc := v }
  | .data j => { t with data := t.data.set j v }

/-- The stored byte of a slot, `reg.<slot>` (R12). -/
def RegFile.get (r : RegFile) : Slot → Byte
  | .canstat => r.canstat
  | .canctrl => r.canctrl
  | .bfpctrl => r.bfpctrl
  | .txrtsctrl => r.txrtsctrl
  | .tecReg => r.tecReg
  | .recReg => r.recReg
  | .cnf1 => r.cnf1
  | .cnf2 => r.cnf2
  | .cnf3 => r.cnf3
  | .caninte => r.caninte
  | .canintf => r.canintf
  | .eflg => r.eflg
  | .tx n b => r.tx[n].get b
  | .rx n b => r.rx[n].get b
  | .filter k j => r.filters[k].get j
  | .mask k j => r.masks[k].get j

/-- The register file with one slot made `v`, with no mask and no side effect (R12). -/
def RegFile.set (r : RegFile) (sl : Slot) (v : Byte) : RegFile :=
  match sl with
  | .canstat => { r with canstat := v }
  | .canctrl => { r with canctrl := v }
  | .bfpctrl => { r with bfpctrl := v }
  | .txrtsctrl => { r with txrtsctrl := v }
  | .tecReg => { r with tecReg := v }
  | .recReg => { r with recReg := v }
  | .cnf1 => { r with cnf1 := v }
  | .cnf2 => { r with cnf2 := v }
  | .cnf3 => { r with cnf3 := v }
  | .caninte => { r with caninte := v }
  | .canintf => { r with canintf := v }
  | .eflg => { r with eflg := v }
  | .tx n b => { r with tx := r.tx.set n (r.tx[n].set b v) }
  | .rx n b => { r with rx := r.rx.set n (r.rx[n].set b v) }
  | .filter k j => { r with filters := r.filters.set k (r.filters[k].set j v) }
  | .mask k j => { r with masks := r.masks.set k (r.masks[k].set j v) }

/-! ### Named updates of State -/

/-- `reg.canstat <- v`. -/
def State.setCanstat (s : State) (v : Byte) : State := { s with reg := { s.reg with canstat := v } }
/-- `reg.canctrl <- v`. -/
def State.setCanctrl (s : State) (v : Byte) : State := { s with reg := { s.reg with canctrl := v } }
/-- `reg.canintf <- v`. -/
def State.setCanintf (s : State) (v : Byte) : State := { s with reg := { s.reg with canintf := v } }
/-- `reg.eflg <- v`. -/
def State.setEflg (s : State) (v : Byte) : State := { s with reg := { s.reg with eflg := v } }
/-- `reg.tx[n] <- t`. -/
def State.setTx (s : State) (n : Fin Config.nTx) (t : Buffer) : State :=
  { s with reg := { s.reg with tx := s.reg.tx.set n t } }
/-- `reg.rx[n] <- t`. -/
def State.setRx (s : State) (n : Fin Config.nRx) (t : Buffer) : State :=
  { s with reg := { s.reg with rx := s.reg.rx.set n t } }
/-- The raw store `reg.<slot> <- v` (R12). -/
def State.setSlot (s : State) (sl : Slot) (v : Byte) : State := { s with reg := s.reg.set sl v }
/-- `irq_prev <- v`. -/
def State.setIrqPrev (s : State) (v : Byte) : State := { s with irqPrev := v }
/-- `pin.irq <- b`. -/
def State.setIrqPin (s : State) (b : Bool) : State := { s with pin := { s.pin with irq := b } }
/-- `pin.rx0bf <- b` for buffer 0, `pin.rx1bf <- b` for buffer 1. -/
def State.setRxnbf (s : State) (i : Fin Config.nRx) (b : Bool) : State :=
  { s with pin := if i = 0 then { s.pin with rx0bf := b } else { s.pin with rx1bf := b } }
/-- `pc <- S`: sets `spi.state` (R12). -/
def State.goto (s : State) (st : SpiState) : State := { s with spi := { s.spi with state := st } }
/-- `spi.address <- a`. -/
def State.setAddress (s : State) (a : Addr) : State := { s with spi := { s.spi with address := a } }
/-- `spi.addr_then_write <- b`. -/
def State.setAddrThenWrite (s : State) (b : Bool) : State := { s with spi := { s.spi with addrThenWrite := b } }
/-- `spi.rx_memo <- m`. -/
def State.setRxMemo (s : State) (m : Option (Fin Config.nRx)) : State := { s with spi := { s.spi with rxMemo := m } }
/-- `spi.modify_mask <- v`. -/
def State.setModifyMask (s : State) (v : Byte) : State := { s with spi := { s.spi with modifyMask := v } }
/-- `cs <- c`. -/
def State.setCs (s : State) (c : ChipSelect) : State := { s with cs := c }
/-- `out <- v`: the output byte of this event. -/
def State.reply (s : State) (v : Byte) : State := { s with out := { s.out with miso := some v } }
/-- The result of this `BusRx` event. -/
def State.answer (s : State) (b : Bool) : State := { s with out := { s.out with accepted := some b } }
/-- `busSend(f)`: appends `f` to the frames this event hands to the bus; it cannot fail (R298). -/
def State.busSend (s : State) (f : Frame) : State := { s with out := { s.out with busSent := s.out.busSent ++ [f] } }
/-- `log(text)`: that a line was written (R365; log 22). -/
def State.logLine (s : State) (l : LogLine) : State := { s with out := { s.out with log := s.out.log ++ [l] } }
/-- The state in which an event is handled: it is taken off the queue (`rest` remains) and nothing is put out yet
(log 1, log 2). -/
def State.beginEvent (s : State) (rest : List Event) : State := { s with pending := rest, out := .empty }

/-- `mode()`: the active mode, `canstat[7:5]` (R12). -/
def State.mode (s : State) : BitVec 3 := modeField s.reg.canstat
/-- `req_mode()`: the requested mode, `canctrl[7:5]` (R12). -/
def State.reqMode (s : State) : BitVec 3 := modeField s.reg.canctrl
/-- ABAT is set (R36). -/
def State.abat (s : State) : Bool := bit s.reg.canctrl abatBit

/-! ### Access by address -/

/-- `x[a]`: the raw stored byte at address `a`, no gate (R12). -/
def State.raw (s : State) (a : Addr) : Byte := s.reg.get (resolve a).slot

/-- `(old & ~m) | (v & m)` (R92). -/
def mergeMasked (old v m : Byte) : Byte := (old &&& ~~~m) ||| (v &&& m)

/-- The masked store, the first step of every register write (R92). -/
def maskedStore (a : Addr) (v : Byte) (s : State) : State :=
  s.setSlot (resolve a).slot (mergeMasked (s.raw a) v (resolve a).writeMask)

/-- `MemRead(a, 1)`: a config-only-read register reads 0x00 unless the active mode is CONFIG (R94; the mode tested is
D41, log 24). It changes no state (R95). -/
def memRead (a : Addr) (s : State) : Byte :=
  if (resolve a).configOnlyRead ∧ s.mode ≠ modeConfig then 0x00 else s.raw a

/-! ### The interrupt and pin aggregator -/

/-- `recompute_rxnbf(i)` (R345). -/
def recomputeRxnbf (i : Fin Config.nRx) (s : State) : State := s.setRxnbf i (rxnbfLevel s.reg i)

/-- `irq_raise(flags)` (R341) with the wake-up procedure it calls as an argument: `recompute_mode(true)` in `irqRaise`,
nothing in `irqRaiseAwake` (log 25). `irq_prev` is updated before the consequences run; if the effective set has not
changed, only the flags are set (D23, log 19). -/
def irqRaiseWith (wake : State → State) (flags : Byte) (s : State) : State :=
  let s1 := s.setCanintf (s.reg.canintf ||| flags)
  let eff := s1.reg.effective
  let changed := eff ^^^ s1.irqPrev
  if changed = 0x00 then s1
  else
    let s2 := s1.setIrqPrev eff
    let s3 := s2.setCanstat (setIcodField s2.reg.canstat (icod eff))
    let s4 := if bit changed wakifBit ∧ bit eff wakifBit ∧ s3.mode = modeSleep then wake s3 else s3
    let s5 := recomputeRxnbf 1 (recomputeRxnbf 0 s4)
    s5.setIrqPin (decide (eff ≠ 0x00))

/-- `irq_raise(flags)` where the active mode is not SLEEP, so that the wake-up of R344 cannot be taken: the form the
receive path and the arbiter call, which run only then (log 25). -/
def irqRaiseAwake (flags : Byte) (s : State) : State := irqRaiseWith (fun t => t) flags s

/-! ### Absorbed conditions -/

/-- `raise <Condition>(info)` (R12, R330): the handling of each condition, after which the caller continues. No condition
saves, masks or transfers anything, so there is no return from one (R339). `irq` is the `irq_raise` in force.
ProtocolError is a log line, its caller sets `Idle` (R331, R205); ConfigError leaves no trace (R334); RxOverflow sets
RX0OVR or RX1OVR in eflg and raises ERRIF (R335, D20, log 17). -/
def raiseConditionWith (irq : Byte → State → State) (c : Condition) (s : State) : State :=
  match c with
  | .protocolError _ => s.logLine .invalidCommand
  | .configError _ => s
  | .rxOverflow n => irq flagErr (s.setEflg (setBit s.reg.eflg (rxovrBit n) true))

/-! ### Reset -/

/-- `full_reset()` (R370): the register file, `irq_prev` and the pins take their reset values; the SPI session and `cs`
are not touched (D28, log 21). -/
def fullReset (s : State) : State := { s with reg := .reset, irqPrev := 0x00, pin := .reset }

end Sys2Proof.Machine
end

