-- ==== Sys2Proof/Machine/Receive.lean ====
section
/-! DEFINITION. The CAN receive path (44_can_receive.md): acceptance filters, dispatch with rollover and overflow. -/

namespace Sys2Proof.Machine

open Sys2Proof

/-- `min(len, 8)` (R250, R262, R264). -/
def clampLen (len : BitVec 4) : Nat := min len.toNat 8

/-- The 11-bit identifier of a standard frame, `id[10:0]` (R250). -/
def stdId (f : Frame) : BitVec 11 := f.id.extractLsb' 0 11

/-- `pack(r)`: `{SID:11}{EID17_16:2}{EID15_8:8}{EID7_0:8}` in bits 28:0, bits 31:29 zero (R256). -/
def pack (r : IdRegs) : Word :=
  (r.sidh.setWidth 32 <<< 21) ||| ((r.sidl.extractLsb' 5 3).setWidth 32 <<< 18) |||
    ((r.sidl.extractLsb' 0 2).setWidth 32 <<< 16) ||| (r.eid8.setWidth 32 <<< 8) ||| r.eid0.setWidth 32

/-- First payload byte a standard filter compares: the frame's own, or the filter's EID8 for a remote or empty frame
(R258). -/
def filterByte0 (f : Frame) (flt : IdRegs) : Byte := if !f.rtr && decide (1 ≤ f.len.toNat) then f.data[0] else flt.eid8

/-- Second payload byte a standard filter compares: the frame's own, or the filter's EID0 (R258). -/
def filterByte1 (f : Frame) (flt : IdRegs) : Byte := if !f.rtr && decide (2 ≤ f.len.toNat) then f.data[1] else flt.eid0

/-- `frame_value(f, flt)`: the 29-bit identifier of an extended frame (R257); for a standard frame
`id << 18 | b0 << 8 | b1` (R258). -/
def frameValue (f : Frame) (flt : IdRegs) : Word :=
  if f.ext then f.id.setWidth 32
  else ((stdId f).setWidth 32 <<< 18) ||| ((filterByte0 f flt).setWidth 32 <<< 8) |||
    (filterByte1 f flt).setWidth 32

/-- The filter value: `pack(flt)`, with bits 17:16 forced to 0 for a standard frame (R258, D18, log 15). -/
def filterValue (f : Frame) (flt : IdRegs) : Word :=
  if f.ext then pack flt else pack flt &&& ~~~0x00030000#32

/-- `matches(f, msk, flt)` (R259); the frame's kind must equal the filter's EXIDE bit (D17, log 15). -/
def matchesFilter (f : Frame) (msk flt : IdRegs) : Bool :=
  (f.ext == bit flt.sidl exideBit) &&
    (~~~(pack msk) ||| ~~~(filterValue f flt ^^^ frameValue f flt)) == 0xFFFFFFFF#32

/-- The filters of RX buffer `b`, in the order they are tried (R254, R255). -/
def filtersOf (b : Fin Config.nRx) : List (Fin Config.nFilter) := if b = 0 then [0, 1] else [2, 3, 4, 5]

/-- `check_filters(f, b)` (R254): RXM 0b11 accepts everything as filter 0, 0b01 and 0b10 are invalid, 0b00 takes the
first matching filter under the buffer's mask. -/
def checkFilters (f : Frame) (b : Fin Config.nRx) (r : RegFile) : FilterResult :=
  let rxm := rxmField r.rx[b].ctrl
  if rxm = 0b11 then .matched 0
  else if rxm ≠ 0b00 then .invalidConfig
  else
    match (filtersOf b).find? (fun k => matchesFilter f r.masks[b] r.filters[k]) with
    | some k => .matched k
    | none => .noMatch

/-- The identifier bytes `dispatch` stores (R263, D19, log 16): SRR is sidl bit 4, IDE sidl bit 3. -/
def storedId (f : Frame) : IdRegs :=
  if f.ext then
    { sidh := f.id.extractLsb' 21 8,
      sidl := ((f.id.extractLsb' 18 3).setWidth 8 <<< 5) ||| oneBit exideBit true ||| (f.id.extractLsb' 16 2).setWidth 8,
      eid8 := f.id.extractLsb' 8 8,
      eid0 := f.id.extractLsb' 0 8 }
  else
    { sidh := (stdId f).extractLsb' 3 8,
      sidl := (((stdId f).extractLsb' 0 3).setWidth 8 <<< 5) ||| oneBit srrBit f.rtr,
      eid8 := 0x00,
      eid0 := 0x00 }

/-- The dlc byte `dispatch` stores: `min(len, 8)`, and the RTR bit of an extended frame in bit 6 (R264, D19). -/
def storedDlc (f : Frame) : Byte :=
  BitVec.ofNat 8 (clampLen f.len) ||| oneBit rtrBit (f.ext && f.rtr)

/-- The payload after `dispatch`: bytes at and beyond `min(len, 8)` keep their previous contents (R265). -/
def storedData (f : Frame) (old : Vector Byte 8) : Vector Byte 8 :=
  Vector.ofFn fun j => if j.val < clampLen f.len then f.data[j] else old[j]

/-- The control byte after `dispatch`: FILHIT0 or FILHIT, and RXRTR; the other bits unchanged (R266). -/
def storedCtrl (f : Frame) (b : Fin Config.nRx) (k : Fin Config.nFilter) (old : Byte) : Byte :=
  setBit (if b = 0 then setBit old filhit0Bit (decide (0 < k.val)) else setFilhitField old (BitVec.ofNat 3 k.val))
    rxrtrBit f.rtr

/-- RX buffer `b` after `dispatch(f, b, k)`, given what it held (R262 to R266). -/
def storedBuffer (f : Frame) (b : Fin Config.nRx) (k : Fin Config.nFilter) (old : Buffer) : Buffer :=
  { ctrl := storedCtrl f b k old.ctrl, id := storedId f, dlc := storedDlc f, data := storedData f old.data }

/-- `dispatch(f, b, k)`: the buffer is complete before its RX-full flag is raised (R262, R266). -/
def dispatchWith (irq : Byte → State → State) (f : Frame) (b : Fin Config.nRx) (k : Fin Config.nFilter)
    (s : State) : State :=
  irq (flagRx b) (s.setRx b (storedBuffer f b k s.reg.rx[b]))

/-- A frame that buffer 0 accepted with filter `k` (R253, R267, R268): stored if buffer 0 is free, else rolled over into
a free buffer 1 if BUKT is set, else RxOverflow(0). -/
def acceptFor0With (irq : Byte → State → State) (f : Frame) (k : Fin Config.nFilter) (s : State) : State :=
  if s.reg.rxFull 0 = false then dispatchWith irq f 0 k s
  else if bit s.reg.rx[0].ctrl buktBit then
    if s.reg.rxFull 1 = false then dispatchWith irq f 1 k s
    else raiseConditionWith irq (.rxOverflow 0) s
  else raiseConditionWith irq (.rxOverflow 0) s

/-- A frame that buffer 0 did not match is offered to buffer 1 (R253). -/
def offerTo1With (irq : Byte → State → State) (f : Frame) (s : State) : State :=
  match checkFilters f 1 s.reg with
  | .matched k =>
    if s.reg.rxFull 1 = false then dispatchWith irq f 1 k s else raiseConditionWith irq (.rxOverflow 1) s
  | .invalidConfig => raiseConditionWith irq (.configError 1) s
  | .noMatch => s

/-- The part of `on_frame` after the SLEEP test (R253): buffer 0 first, then buffer 1, else dropped silently. -/
def receiveWith (irq : Byte → State → State) (f : Frame) (s : State) : State :=
  match checkFilters f 0 s.reg with
  | .matched k => acceptFor0With irq f k s
  | .invalidConfig => offerTo1With irq f (raiseConditionWith irq (.configError 0) s)
  | .noMatch => offerTo1With irq f s

/-- `on_frame(f)` (R253) with the `irq_raise` in force; the Bool is its result, false only for a rejected frame (D21,
log 18). In SLEEP the frame raises WAKIF and is lost (R252). -/
def onFrameWith (irq : Byte → State → State) (f : Frame) (s : State) : Bool × State :=
  if f.err ∨ f.flags ≠ 0 then (false, s)
  else if s.mode = modeSleep then (true, irq flagWak s)
  else (true, receiveWith irq f s)

/-- `can_accept()`: frames from the bus are taken unless the mode is CONFIG or LOOPBACK (R269). -/
def canAccept (s : State) : Bool := decide (s.mode ≠ modeConfig ∧ s.mode ≠ modeLoopback)

end Sys2Proof.Machine
end

