-- ==== Sys2Proof/Machine/Transmit.lean ====
section
/-! DEFINITION. The CAN transmit path: the TX priority arbiter (45_can_transmit.md). -/

namespace Sys2Proof.Machine

open Sys2Proof

/-- `frame_of(t)`: the frame built from TX buffer `t` (R296). -/
def frameOf (t : Buffer) : Frame :=
  let sid : BitVec 29 := (t.id.sidh.setWidth 29 <<< 3) ||| (t.id.sidl.extractLsb' 5 3).setWidth 29
  let n := clampLen (t.dlc.extractLsb' 0 4)
  { id := if bit t.id.sidl exideBit then (sid <<< 18) ||| ((t.id.sidl.extractLsb' 0 2).setWidth 29 <<< 16) |||
            (t.id.eid8.setWidth 29 <<< 8) ||| t.id.eid0.setWidth 29
          else sid,
    ext := bit t.id.sidl exideBit,
    rtr := bit t.dlc rtrBit,
    err := false,
    flags := 0,
    len := BitVec.ofNat 4 n,
    data := Vector.ofFn fun j => if j.val < n then t.data[j] else 0x00 }

/-- TXREQ of TX buffer `n` (R23). -/
def State.txreq (s : State) (n : Fin Config.nTx) : Bool := bit s.reg.tx[n].ctrl txreqBit

/-- `reg.tx[n].ctrl[i] <- b`. -/
def State.setTxCtrlBit (s : State) (n : Fin Config.nTx) (i : Nat) (b : Bool) : State :=
  s.setTx n { s.reg.tx[n] with ctrl := setBit s.reg.tx[n].ctrl i b }

/-- The order in which the requested buffers are served (R292): descending TXP, equal TXP ascending by index. A pure
function of the three priorities and the bitmap. -/
def sendOrder (txp : Fin Config.nTx → BitVec 2) (bitmap : BitVec 3) : List (Fin Config.nTx) :=
  ([3, 2, 1, 0] : List (BitVec 2)).flatMap fun p =>
    ([0, 1, 2] : List (Fin Config.nTx)).filter fun n => bitmap.getLsbD n.val && txp n == p

/-- `do_send(n)` (R295): queued unless the mode is NORMAL or LOOPBACK (R300); the frame goes to the bus (R298) or into
the receive path (R297, D42), then TXREQ is cleared and TXnIF raised (R299). It runs only outside SLEEP, so its
`irq_raise` is the one that cannot wake (log 25). -/
def doSend (n : Fin Config.nTx) (s : State) : State :=
  if s.mode ≠ modeNormal ∧ s.mode ≠ modeLoopback then s
  else
    let f := frameOf s.reg.tx[n]
    let s1 := if s.mode = modeNormal then s.busSend f else (onFrameWith irqRaiseAwake f s).2
    irqRaiseAwake (flagTx n) (s1.setTxCtrlBit n txreqBit false)

/-- `try_send(n)` (R294). -/
def trySend (n : Fin Config.nTx) (s : State) : State := if s.txreq n then doSend n s else s

/-- One buffer's turn in `request_to_send`: clear ABTF, set TXREQ, try to send (R290, R291). -/
def requestOne (s : State) (n : Fin Config.nTx) : State :=
  trySend n ((s.setTxCtrlBit n abtfBit false).setTxCtrlBit n txreqBit true)

/-- `request_to_send(bitmap)` (R290): a no-op while ABAT is set; the order is computed once, from the TXP values at
entry. -/
def requestToSend (bitmap : BitVec 3) (s : State) : State :=
  if s.abat then s
  else (sendOrder (fun n => txpField s.reg.tx[n].ctrl) bitmap).foldl requestOne s

end Sys2Proof.Machine
end

