-- ==== Sys2Proof/Machine/Mode.lean ====
section
/-! DEFINITION. The mode controller (46_mode_control.md), and above it the aggregator procedures that may wake the chip
(60_exceptions.md R341 to R347) and the event `BusRx` (44_can_receive.md R251). -/

namespace Sys2Proof.Machine

open Sys2Proof

/-- Step 1 for one buffer: a pending request is aborted, TXREQ cleared and ABTF set (R311, D24, log 20). -/
def abortOne (s : State) (n : Fin Config.nTx) : State :=
  if s.txreq n then (s.setTxCtrlBit n txreqBit false).setTxCtrlBit n abtfBit true else s

/-- Step 1: while ABAT is set, abort buffers 0 and 1, never buffer 2 (R311). -/
def abortPending (s : State) : State := if s.abat then abortOne (abortOne s 0) 1 else s

/-- Step 2: a request that is no mode is replaced by the active mode (R312). -/
def snapRequest (s : State) : State :=
  if 4 < s.reqMode.toNat then s.setCanctrl (setModeField s.reg.canctrl s.mode) else s

/-- The bitmap of those of buffers 0 and 1 that still have TXREQ (R313). -/
def pendingBitmap (s : State) : BitVec 3 := (BitVec.ofBool (s.txreq 0)).setWidth 3 ||| ((BitVec.ofBool (s.txreq 1)).setWidth 3 <<< 1)

/-- Step 3: commit the request unless the chip sleeps and this is no wake-up, then re-run TX arbitration for buffers 0
and 1 (R313, D25, log 20). -/
def commitMode (wake : Bool) (s : State) : State :=
  if s.reqMode ≠ s.mode ∧ (s.mode ≠ modeSleep ∨ wake) then
    let s1 := s.setCanstat (setModeField s.reg.canstat s.reqMode)
    requestToSend (pendingBitmap s1) s1
  else s

/-- Step 4: in SLEEP the request is forced to LISTEN (R314). -/
def forceListen (s : State) : State :=
  if s.mode = modeSleep then s.setCanctrl (setModeField s.reg.canctrl modeListen) else s

/-- `recompute_mode(wake)`: the four steps, in this order every time (R310). -/
def recomputeMode (wake : Bool) (s : State) : State :=
  forceListen (commitMode wake (snapRequest (abortPending s)))

/-- `irq_raise(flags)` (R341): a WAKIF that newly becomes effective in SLEEP runs `recompute_mode(true)` (R344). -/
def irqRaise (flags : Byte) (s : State) : State := irqRaiseWith (recomputeMode true) flags s

/-- `irq_recompute()` = `irq_raise(0x00)` (R342). -/
def irqRecompute (s : State) : State := irqRaise 0x00 s

/-- `irq_recompute_forced()` (R346): for a host that installs a state by other means than the events; no event of the
model calls it (D39, log 23). -/
def irqRecomputeForced (s : State) : State := irqRaise 0x00 (s.setIrqPrev (~~~s.reg.effective))

/-- `clear_rx_flag(i)` (R347). -/
def clearRxFlag (i : Fin Config.nRx) (s : State) : State :=
  irqRecompute (s.setCanintf (setBit s.reg.canintf (rxifBit i) false))

/-- `on_frame(f)` as the bus delivery runs it (R253). -/
def onFrame (f : Frame) (s : State) : Bool × State := onFrameWith irqRaise f s

/-- The event `BusRx(f)` (R251): refused without any state change while `can_accept()` is false (D21, log 18). -/
def busRx (f : Frame) (s : State) : State :=
  if canAccept s then
    let r := onFrame f s
    r.2.answer r.1
  else s.answer false

end Sys2Proof.Machine
end

