-- ==== Sys2Proof/Machine/Update.lean ====
section
/-! DEFINITION. The one routine through which every register write from SPI goes (43_register_update.md). -/

namespace Sys2Proof.Machine

open Sys2Proof

/-- Side effect of writing rx[0].ctrl: BUKT1 takes the value of BUKT (R234). -/
def mirrorBukt (s : State) : State :=
  s.setRx 0 { s.reg.rx[0] with ctrl := setBit s.reg.rx[0].ctrl bukt1Bit (bit s.reg.rx[0].ctrl buktBit) }

/-- Side effect of writing tx[n].ctrl: while ABAT is set TXREQ is force-cleared and ABTF left (R235); otherwise ABTF is
cleared and a pending buffer is tried (R236). -/
def txCtrlWritten (n : Fin Config.nTx) (s : State) : State :=
  if s.abat then s.setTxCtrlBit n txreqBit false
  else trySend n (s.setTxCtrlBit n abtfBit false)

/-- The side effect of a write to a slot, chosen by the slot's identity alone (R230 to R237). -/
def sideEffect (sl : Slot) (s : State) : State :=
  match sl with
  | .caninte => irqRecompute s
  | .canintf => irqRecompute s
  | .bfpctrl => recomputeRxnbf 1 (recomputeRxnbf 0 s)
  | .canctrl => recomputeMode false s
  | .rx n .ctrl => if n = 0 then mirrorBukt s else s
  | .tx n .ctrl => txCtrlWritten n s
  | .rx _ (.id _) => s
  | .rx _ .dlc => s
  | .rx _ (.data _) => s
  | .tx _ (.id _) => s
  | .tx _ .dlc => s
  | .tx _ (.data _) => s
  | .canstat => s
  | .txrtsctrl => s
  | .tecReg => s
  | .recReg => s
  | .cnf1 => s
  | .cnf2 => s
  | .cnf3 => s
  | .eflg => s
  | .filter _ _ => s
  | .mask _ _ => s

/-- `update(a, v)` = `MemWrite(a, 1, v)` (R230): the masked merge is complete before the side effect starts (R238). -/
def update (a : Addr) (v : Byte) (s : State) : State := sideEffect (resolve a).slot (maskedStore a v s)

end Sys2Proof.Machine
end

