-- ==== Sys2Proof/Machine/BufferShortcuts.lean ====
section
/-! DEFINITION. READ RX BUFFER and LOAD TX BUFFER, command bytes (41_spi_buffer_shortcuts.md); their data bytes are those
of `ReadingData` and `WritingData`. -/

namespace Sys2Proof.Machine

open Sys2Proof

/-- READ RX BUFFER, command byte (R180). The RX-full flag of the remembered buffer is cleared at `CsDeassert` (R183). -/
def execRdrxb (n m : BitVec 1) (s : State) : Host.Outcome State Fault Refusal :=
  .next ((((s.setAddress (rxStartAddress n m)).setRxMemo (some (rxMemoOf n))).goto .readingData).reply 0xFF)

/-- LOAD TX BUFFER, command byte, with pointer `p` of 0 to 5 (R185). -/
def loadTxBuffer (p : Nat) (s : State) : State :=
  ((s.setAddress (txStartAddress p)).goto .writingData).reply 0xFF

/-- LOAD TX BUFFER with pointer 0 to 3 (R185). -/
def execLdtxbLow (bc : BitVec 2) (s : State) : Host.Outcome State Fault Refusal :=
  .next (loadTxBuffer bc.toNat s)

/-- LOAD TX BUFFER with pointer 4 or 5 (R185). -/
def execLdtxbHigh (c : BitVec 1) (s : State) : Host.Outcome State Fault Refusal :=
  .next (loadTxBuffer (4 + c.toNat) s)

end Sys2Proof.Machine
end

