-- ==== Sys2Proof/Machine/ControlStatus.lean ====
section
/-! DEFINITION. RESET, RTS, READ STATUS, RX STATUS and invalid commands, the states `Idle`, `ReadingStatus` and
`ReadingRxStatus` (42_spi_control_status.md), the two chip-select events and `DeviceReset`. -/

namespace Sys2Proof.Machine

open Sys2Proof

/-- RESET (R200): chip-select stays asserted and the rest of the transaction is ignored (R201). -/
def execReset (s : State) : Host.Outcome State Fault Refusal :=
  .next (((fullReset s).goto .idle).reply 0xFF)

/-- RTS (R203): bit `i` of the bitmap requests TX buffer `i` (D27, log 20). -/
def execRts (nnn : BitVec 3) (s : State) : Host.Outcome State Fault Refusal :=
  .next (((requestToSend nnn s).goto .idle).reply 0xFF)

/-- READ STATUS, command byte (R206). -/
def execRdstat (s : State) : Host.Outcome State Fault Refusal :=
  .next ((s.goto .readingStatus).reply 0xFF)

/-- RX STATUS, command byte (R209). -/
def execRxstat (s : State) : Host.Outcome State Fault Refusal :=
  .next ((s.goto .readingRxStatus).reply 0xFF)

/-- Any other command byte (R205): ProtocolError, logged and absorbed, then `Idle` (R331, C1). -/
def execInvalid (b : Byte) (s : State) : Host.Outcome State Fault Refusal :=
  .next (((raiseConditionWith irqRaise (.protocolError b) s).goto .idle).reply 0xFF)

/-- A byte in state `ReadingStatus`; the input byte is ignored (R207). -/
def readingStatusByte (s : State) : State := (s.reply (statusByte s.reg)).goto .readingStatus

/-- A byte in state `ReadingRxStatus`; the input byte is ignored (R210). -/
def readingRxStatusByte (s : State) : State := (s.reply (rxStatusByte s.reg)).goto .readingRxStatus

/-- A byte in state `Idle`: output 0xFF always (R212). -/
def idleByte (s : State) : State := (s.reply 0xFF).goto .idle

/-- `CsAssert`, the falling edge (R214); ignored when it is no edge (D37, log 5). The other session fields keep stale
values that no rule reads before writing them. -/
def csAssert (s : State) : State :=
  if s.cs = .asserted then s
  else ((s.setCs .asserted).goto .awaitingInstruction).setRxMemo none

/-- `CsDeassert`, the rising edge (R215): after a READ RX BUFFER the buffer's RX-full flag is cleared, then the memo is
forgotten (R183, C13); ignored when it is no edge (D37, log 5). -/
def csDeassert (s : State) : State :=
  if s.cs = .deasserted then s
  else
    let s1 := s.setCs .deasserted
    let s2 := match s1.spi.rxMemo with
      | some i => clearRxFlag i s1
      | none => s1
    s2.setRxMemo none

/-- `DeviceReset` (R371): `full_reset` and a fresh session with chip-select de-asserted; a transaction in progress is
abandoned without `clear_rx_flag` (D28, log 21). -/
def deviceReset (s : State) : State := { fullReset s with spi := .reset, cs := .deasserted }

end Sys2Proof.Machine
end

