-- ==== Sys2Proof/Machine/RegisterAccess.lean ====
section
/-! DEFINITION. READ, WRITE and BIT MODIFY: the command bytes and the protocol states they pass through
(40_spi_register_access.md). -/

namespace Sys2Proof.Machine

open Sys2Proof

/-- READ, command byte (R150). -/
def execRead (s : State) : Host.Outcome State Fault Refusal :=
  .next (((s.setAddrThenWrite false).goto .awaitingAddress).reply 0xFF)

/-- WRITE, command byte (R151). -/
def execWrite (s : State) : Host.Outcome State Fault Refusal :=
  .next (((s.setAddrThenWrite true).goto .awaitingAddress).reply 0xFF)

/-- BIT MODIFY, command byte (R161). -/
def execBitmod (s : State) : Host.Outcome State Fault Refusal :=
  .next ((s.goto .awaitingModifyAddress).reply 0xFF)

/-- A byte in state `AwaitingAddress`, shared by READ and WRITE (R152). -/
def awaitingAddressByte (b : Byte) (s : State) : State :=
  ((s.setAddress (latchAddress b)).goto (if s.spi.addrThenWrite then .writingData else .readingData)).reply spiFill

/-- A byte in state `WritingData`: WRITE and LOAD TX BUFFER (R155). -/
def writingDataByte (b : Byte) (s : State) : State :=
  let s1 := update s.spi.address b s
  ((s1.setAddress (nextAddress s1.spi.address)).goto .writingData).reply spiFill

/-- A byte in state `ReadingData`: READ and READ RX BUFFER; the input byte is ignored (R159). -/
def readingDataByte (s : State) : State :=
  ((s.reply (memRead s.spi.address s)).setAddress (nextAddress s.spi.address)).goto .readingData

/-- A byte in state `AwaitingModifyAddress` (R162). -/
def modifyAddressByte (b : Byte) (s : State) : State :=
  ((s.setAddress (latchAddress b)).goto .awaitingModifyMask).reply spiFill

/-- A byte in state `AwaitingModifyMask` (R163). -/
def modifyMaskByte (b : Byte) (s : State) : State :=
  ((s.setModifyMask b).goto .modifyingData).reply spiFill

/-- The byte a BIT MODIFY data byte `b` offers to `update`: merged under the modify mask, which is 0xFF for a register
that is not bit-modifiable; `current` is the raw stored byte (R165, D15, log 14). -/
def modifyMerge (b : Byte) (s : State) : Byte :=
  let mm := if (resolve s.spi.address).bitModifiable then s.spi.modifyMask else 0xFF
  (b &&& mm) ||| (s.raw s.spi.address &&& ~~~mm)

/-- A byte in state `ModifyingData`: the cursor does not advance and the state stays (R164, R165). -/
def modifyingDataByte (b : Byte) (s : State) : State :=
  ((update s.spi.address (modifyMerge b s) s).goto .modifyingData).reply spiFill

end Sys2Proof.Machine
end

