-- ==== Sys2Proof/Machine/Dispatch.lean ====
section
/-! DEFINITION. `exec`: the meaning of a command byte, one arm per constructor of Instr. -/

namespace Sys2Proof.Machine

open Sys2Proof

/-- What the command byte of `i` does in state `AwaitingInstruction` (R124, R217). -/
def exec (i : Instr) (s : State) : Host.Outcome State Fault Refusal :=
  match i with
  | .reset => Sys2Proof.Machine.execReset s
  | .read => Sys2Proof.Machine.execRead s
  | .write => Sys2Proof.Machine.execWrite s
  | .bitmod => Sys2Proof.Machine.execBitmod s
  | .rdrxb n m => Sys2Proof.Machine.execRdrxb n m s
  | .ldtxbLow bc => Sys2Proof.Machine.execLdtxbLow bc s
  | .ldtxbHigh c => Sys2Proof.Machine.execLdtxbHigh c s
  | .rts nnn => Sys2Proof.Machine.execRts nnn s
  | .rdstat => Sys2Proof.Machine.execRdstat s
  | .rxstat => Sys2Proof.Machine.execRxstat s
  | .invalid b => Sys2Proof.Machine.execInvalid b s

end Sys2Proof.Machine
end

