-- ==== Sys2Proof/Machine/Step.lean ====
section
/-! DEFINITION. One step of the machine: the next pending event, handled to completion (00_scope.md R8, 20_memory.md
R100). -/

namespace Sys2Proof.Machine

open Sys2Proof

/-- `SpiByte(b)` (R121, R217): the protocol state decides what the byte is; in `AwaitingInstruction` it is a command
byte, decoded and executed. Outside a chip-select assertion it is refused (R216, log 5). -/
def spiByte (b : Byte) (s : State) : Host.Outcome State Fault Refusal :=
  if s.cs = .deasserted then .refused .spiByteWhileDeselected
  else match s.spi.state with
    | .awaitingInstruction => exec (decodeByte b) s
    | .awaitingAddress => .next (awaitingAddressByte b s)
    | .writingData => .next (writingDataByte b s)
    | .readingData => .next (readingDataByte s)
    | .idle => .next (idleByte s)
    | .readingStatus => .next (readingStatusByte s)
    | .readingRxStatus => .next (readingRxStatusByte s)
    | .awaitingModifyAddress => .next (modifyAddressByte b s)
    | .awaitingModifyMask => .next (modifyMaskByte b s)
    | .modifyingData => .next (modifyingDataByte b s)

/-- One event, handled to completion (R8). -/
def deliver (e : Event) (s : State) : Host.Outcome State Fault Refusal :=
  match e with
  | .csAssert => .next (csAssert s)
  | .csDeassert => .next (csDeassert s)
  | .spiByte b => spiByte b s
  | .busRx f => .next (busRx f s)
  | .deviceReset => .next (deviceReset s)

/-- One step: the oldest pending event is taken and handled; with no event pending nothing happens, for the chip
"changes state only in response to" an event (R8; log 1). -/
def step (s : State) : Host.Outcome State Fault Refusal :=
  match s.pending with
  | [] => .next s
  | e :: rest => deliver e (s.beginEvent rest)

/-- The state in which the very next step runs the command of an opcode-table word: chip-select asserted, the SPI state
machine awaiting a command, and the word's bytes the next input bytes (log 3). -/
def State.withFetchWord (s : State) (nbits w : Nat) : State :=
  { s with
    cs := .asserted,
    spi := { s.spi with state := .awaitingInstruction },
    pending := (tableBytes nbits w).map Event.spiByte ++ s.pending }

end Sys2Proof.Machine
end

