-- ==== Sys2Proof/Safety.lean ====
section
/-! DEFINITION. What claims about the chip speak of: the invariants of 10_state.md (R21, R37, R46 to R48) and of the
abort and arbitration rules, what a master that respects R216 sends, and a run that never stops. Each invariant is a
decidable proposition on a state. -/

namespace Sys2Proof.Machine

open Sys2Proof

/-- R46 (a), (b): the active and the requested mode are modes. -/
abbrev ModesLegal (s : State) : Prop := s.mode.toNat ≤ 4 ∧ s.reqMode.toNat ≤ 4

/-- R47: asleep, the requested mode is LISTEN. -/
abbrev SleepRequestsListen (s : State) : Prop := s.mode = modeSleep → s.reqMode = modeListen

/-- R48: `irq_prev` is the effective set, canstat's code is its code, and `pin.irq` says whether it is empty. -/
abbrev InterruptsCurrent (s : State) : Prop :=
  s.irqPrev = s.reg.effective ∧ icodField s.reg.canstat = icod s.irqPrev ∧ s.pin.irq = decide (s.irqPrev ≠ 0x00)

/-- What R236, R290, R311 and R313 make of the request bits: a pending request is not marked aborted; while ABAT is set
buffers 0 and 1 have no request; in a sending mode buffers 0 and 1 have none either (buffer 2 may, R383). -/
abbrev RequestsConsistent (s : State) : Prop :=
  (∀ n : Fin Config.nTx, s.txreq n = true → bit s.reg.tx[n].ctrl abtfBit = false) ∧
  (s.abat = true → s.txreq 0 = false ∧ s.txreq 1 = false) ∧
  (s.mode = modeNormal ∨ s.mode = modeLoopback → s.txreq 0 = false ∧ s.txreq 1 = false)

/-- The invariants of the modes, of the interrupts and of the requests together. -/
abbrev Legal (s : State) : Prop :=
  ModesLegal s ∧ SleepRequestsListen s ∧ InterruptsCurrent s ∧ RequestsConsistent s

/-- R21, R37, and the bits that 10_state.md marks "0 (never set)": every bit outside the write mask that no rule writes
is 0; the stored length of a received frame is at most 8 (R31). -/
abbrev ReservedBitsClear (s : State) : Prop :=
  (s.reg.canstat &&& 0x11 = 0 ∧ s.reg.bfpctrl &&& 0xC0 = 0 ∧ s.reg.txrtsctrl &&& 0xF8 = 0 ∧ s.reg.tecReg = 0 ∧
    s.reg.recReg = 0 ∧ s.reg.cnf3 &&& 0x38 = 0 ∧ s.reg.eflg &&& 0x3F = 0) ∧
  (∀ n : Fin Config.nTx, s.reg.tx[n].ctrl &&& 0xB4 = 0 ∧ s.reg.tx[n].id.sidl &&& 0x14 = 0 ∧
    s.reg.tx[n].dlc &&& 0xB0 = 0) ∧
  (∀ n : Fin Config.nRx, s.reg.rx[n].ctrl &&& 0x90 = 0 ∧ s.reg.rx[n].id.sidl &&& 0x04 = 0 ∧
    s.reg.rx[n].dlc &&& 0xB0 = 0 ∧ (s.reg.rx[n].dlc &&& 0x0F).toNat ≤ 8) ∧
  (∀ k : Fin Config.nFilter, s.reg.filters[k].sidl &&& 0x14 = 0) ∧
  (∀ k : Fin Config.nMask, s.reg.masks[k].sidl &&& 0x1C = 0)

/-- R234: BUKT1 always equals BUKT. -/
abbrev BuktMirrored (s : State) : Prop := bit s.reg.rx[0].ctrl bukt1Bit = bit s.reg.rx[0].ctrl buktBit

/-- A slot whose write has no side effect (R237). -/
def plainSlot : Slot → Bool
  | .caninte => false
  | .canintf => false
  | .bfpctrl => false
  | .canctrl => false
  | .rx n .ctrl => decide (n ≠ 0)
  | .tx _ .ctrl => false
  | .rx _ (.id _) => true
  | .rx _ .dlc => true
  | .rx _ (.data _) => true
  | .tx _ (.id _) => true
  | .tx _ .dlc => true
  | .tx _ (.data _) => true
  | .canstat => true
  | .txrtsctrl => true
  | .tecReg => true
  | .recReg => true
  | .cnf1 => true
  | .cnf2 => true
  | .cnf3 => true
  | .eflg => true
  | .filter _ _ => true
  | .mask _ _ => true

/-- The state with the storage that no rule gives a behaviour, cnf1, cnf2, cnf3 and txrtsctrl (R39, R40, U12), blanked. -/
def State.withoutTimingStorage (s : State) : State :=
  { s with reg := { s.reg with cnf1 := 0x00, cnf2 := 0x00, cnf3 := 0x00, txrtsctrl := 0x00 } }

/-- An outcome with every state seen through `f`. -/
def mapOutcome (f : State → State) : Host.Outcome State Fault Refusal → Host.Outcome State Fault Refusal
  | .next t => .next (f t)
  | .fault r => .fault r
  | .refused r => .refused r

/-- The SPI master clocks a byte only inside a chip-select assertion (R216), from the level `c` on. -/
def selectsBeforeClocking : ChipSelect → List Event → Bool
  | _, [] => true
  | _, .csAssert :: rest => selectsBeforeClocking .asserted rest
  | _, .csDeassert :: rest => selectsBeforeClocking .deasserted rest
  | _, .deviceReset :: rest => selectsBeforeClocking .deasserted rest
  | c, .spiByte _ :: rest => decide (c = .asserted) && selectsBeforeClocking c rest
  | c, .busRx _ :: rest => selectsBeforeClocking c rest

/-- A run of any length from `s` never stops. -/
def RunsForever (s : State) : Prop := ∀ k : Nat, ∃ t : State, Host.Core.run Sys2Proof.core k s = .next t

/-- The next event is the byte `b`, clocked inside a chip-select assertion and taken in protocol state `st`; `rest` is
what the environment does afterwards. -/
abbrev ClocksByte (s : State) (st : SpiState) (b : Byte) (rest : List Event) : Prop :=
  s.cs = .asserted ∧ s.spi.state = st ∧ s.pending = .spiByte b :: rest

/-- WAKIF becomes effective in SLEEP mode when the effective set becomes `eff` (R344). -/
def wakes (eff : Byte) (s : State) : Bool := decide (s.mode = modeSleep) && (bit eff 6 && !bit s.irqPrev 6)

/-- What R341 to R345 make of raising `flags`, in one record: only canintf, and if the effective set changes also the
interrupt code, `irq_prev` and the three pins; a wake-up moves the active mode from SLEEP to LISTEN (R318). -/
def raised (flags : Byte) (s : State) : State :=
  let flagsNow := s.reg.canintf ||| flags
  let eff := flagsNow &&& s.reg.caninte
  let reg := { s.reg with canintf := flagsNow }
  if eff = s.irqPrev then { s with reg := reg }
  else
    { s with
      reg := { reg with
        canstat := setIcodField (if wakes eff s then setModeField s.reg.canstat modeListen else s.reg.canstat) (icod eff) },
      irqPrev := eff,
      pin := { irq := decide (eff ≠ 0x00), rx0bf := rxnbfLevel reg 0, rx1bf := rxnbfLevel reg 1 } }

/-- `s` with what a reception can change (R271) taken from `v`: RX buffers, canintf, eflg, the interrupt code,
`irq_prev` and the pins. -/
def State.withReceiveState (s v : State) : State :=
  { s with
    reg := { s.reg with
      rx := v.reg.rx, canintf := v.reg.canintf, eflg := v.reg.eflg,
      canstat := setIcodField s.reg.canstat (icodField v.reg.canstat) }
    irqPrev := v.irqPrev
    pin := v.pin }

/-- `s` after the receive path took `f` as it takes a frame from the bus in LISTEN mode: filters, rollover and overflow
(R297). -/
def receivedAsInListen (f : Frame) (s : State) : State :=
  s.withReceiveState (busRx f (s.setCanstat (setModeField s.reg.canstat modeListen)))

/-- One transmission in LOOPBACK mode, but for the control byte of the TX buffer: the frame of TX buffer `n` is received
and then TXnIF raised (R297, R299; the order is D42, log 24). -/
def loopedBack (frames : Fin Config.nTx → Frame) (s : State) (n : Fin Config.nTx) : State :=
  raised (flagTx n) (receivedAsInListen (frames n) s)

/-- The frame is one the receive path looks at: no error mark, no generic flags (R253). -/
abbrev CleanFrame (f : Frame) : Prop := f.err = false ∧ f.flags = 0

/-- Frames from the bus are filtered and stored in this mode (R316). -/
abbrev ReceivingMode (s : State) : Prop := s.mode = modeNormal ∨ s.mode = modeListen

/-- Frame `f` is stored in RX buffer `b` under filter index `k` (R253): buffer 0 accepts it and is free; or buffer 0
accepts it, is full, rollover is on and buffer 1 is free; or buffer 0 does not accept it, and buffer 1 does and is
free. -/
abbrev StoredIn (f : Frame) (r : RegFile) (b : Fin Config.nRx) (k : Fin Config.nFilter) : Prop :=
  (b = 0 ∧ checkFilters f 0 r = .matched k ∧ r.rxFull 0 = false) ∨
  (b = 1 ∧ checkFilters f 0 r = .matched k ∧ r.rxFull 0 = true ∧ bit r.rx[0].ctrl buktBit = true ∧
    r.rxFull 1 = false) ∨
  (b = 1 ∧ (∀ j, checkFilters f 0 r ≠ .matched j) ∧ checkFilters f 1 r = .matched k ∧ r.rxFull 1 = false)

/-- Frame `f` overflows RX buffer `n` (R268). -/
abbrev OverflowsIn (f : Frame) (r : RegFile) (n : Fin Config.nRx) : Prop :=
  (n = 0 ∧ (∃ k, checkFilters f 0 r = .matched k) ∧ r.rxFull 0 = true ∧
    (bit r.rx[0].ctrl buktBit = false ∨ r.rxFull 1 = true)) ∨
  (n = 1 ∧ (∀ j, checkFilters f 0 r ≠ .matched j) ∧ (∃ k, checkFilters f 1 r = .matched k) ∧ r.rxFull 1 = true)

/-- The address of the control byte of TX buffer `n` (R85). -/
def txCtrlAddress (n : Fin Config.nTx) : Addr := BitVec.ofNat 7 (0x30 + 16 * n.val)

/-- The address of canctrl in row `row` of the address map (R86). -/
def canctrlAddress (row : Fin 8) : Addr := BitVec.ofNat 7 (0x0F + 16 * row.val)

end Sys2Proof.Machine
end

