-- ==== Sys2Proof/Certificates/Slice0/Obligations.lean ====
section
/-! DEFINITION. The statements for the provers. "The model's choice" in a docstring names the assumption log entries a
statement rests on beyond the spec's plain rules. -/

open Sys2Proof Sys2Proof.Machine

/-! ### Command encoding -/

/-- R124: which command each first byte is, and the output byte of every command byte. -/
def Obligations.CommandMapAndFirstOutput : Prop :=
  (∀ b : Byte,
    (decodeByte b = .reset ↔ b = 0xC0) ∧
    (decodeByte b = .read ↔ b = 0x03) ∧
    (decodeByte b = .write ↔ b = 0x02) ∧
    (∀ n m : BitVec 1, decodeByte b = .rdrxb n m ↔ b.toNat = 0x90 + 4 * n.toNat + 2 * m.toNat) ∧
    (∀ bc : BitVec 2, decodeByte b = .ldtxbLow bc ↔ b.toNat = 0x40 + bc.toNat) ∧
    (∀ c : BitVec 1, decodeByte b = .ldtxbHigh c ↔ b.toNat = 0x44 + c.toNat) ∧
    (∀ nnn : BitVec 3, decodeByte b = .rts nnn ↔ b.toNat = 0x80 + nnn.toNat) ∧
    (decodeByte b = .rdstat ↔ b = 0xA0) ∧
    (decodeByte b = .rxstat ↔ b = 0xB0) ∧
    (decodeByte b = .bitmod ↔ b = 0x05) ∧
    (∀ c : Byte, decodeByte b = .invalid c ↔ c = b ∧ b ∉ validCommandBytes)) ∧
  (∀ (i : Instr) (s : State), ∃ t, exec i s = .next t ∧ t.out.miso = some 0xFF)

/-- Opening of 30_encoding.md: a command byte belongs to the first row of the opcode table it fits, and the decoder
answers a command of that row. -/
def Obligations.DecoderFollowsOpcodeTable : Prop :=
  ∀ b : Byte, opcodeTable.findIdx (fun r => b &&& r.mask == r.pattern) = (decodeByte b).row

/-- Decoding undoes encoding for every well-formed command and any bytes after it, and encoding undoes decoding for
every byte (R123, R124). -/
def Obligations.DecodeAndEncodeAreInverse : Prop :=
  (∀ (i : Instr) (rest : List Byte), i.wellFormed = true → decode (encode i ++ rest) = .ok (i, rest)) ∧
  (∀ b : Byte, (decodeByte b).wellFormed = true ∧ encode (decodeByte b) = [b])

/-- The packed identifier word of a frame keeps all of it (R250); the places of rtr and err are the model's choice
(D22, log 18). -/
def Obligations.FrameIdentifierWordRoundTrip : Prop :=
  (∀ f : Frame, Frame.ofIdWord f.idWord f.flags f.len f.data = f) ∧
  (∀ (w : Word) (flags : BitVec 8) (len : BitVec 4) (data : Vector Byte 8),
    (Frame.ofIdWord w flags len data).idWord = w) ∧
  (∀ f : Frame, f.idWord.getLsbD 31 = f.ext ∧ f.idWord.getLsbD 30 = f.rtr ∧ f.idWord.getLsbD 29 = f.err ∧
    f.idWord &&& 0x1FFFFFFF = f.id.setWidth 32)

/-- Command bytes written out from R123 and R125, one for each row of the opcode table. -/
def Obligations.SampleCommandBytesDecode : Prop :=
  decode [0b11000000, 0x55] = .ok (.reset, [0x55]) ∧
  decode [0b00000011, 0x0E] = .ok (.read, [0x0E]) ∧
  decode [0b00000010] = .ok (.write, []) ∧
  decode [0b00000101] = .ok (.bitmod, []) ∧
  decode [0b10010110] = .ok (.rdrxb 1 1, []) ∧
  decode [0b10010100] = .ok (.rdrxb 1 0, []) ∧
  decode [0b01000010] = .ok (.ldtxbLow 0b10, []) ∧
  decode [0b01000101] = .ok (.ldtxbHigh 1, []) ∧
  decode [0b10000110] = .ok (.rts 0b110, []) ∧
  decode [0b10100000] = .ok (.rdstat, []) ∧
  decode [0b10110000] = .ok (.rxstat, []) ∧
  decode [0b01000110] = .ok (.invalid 0x46, [])

/-! ### The step and the SPI state machine -/

/-- R121: a byte taken in `AwaitingInstruction` runs the command it decodes to; the step around it takes the event off
the queue and starts a fresh output record (log 1, log 2). The second clause says the same of a command placed by
`withFetchWord` (log 3). -/
def Obligations.StepRunsDecodedCommand : Prop :=
  (∀ (s : State) (b : Byte) (rest : List Event) (i : Instr),
    ClocksByte s .awaitingInstruction b rest → decode [b] = .ok (i, []) → i.wellFormed = true →
    step s = exec i { s with pending := rest, out := Output.empty }) ∧
  (∀ (s : State) (i : Instr), i.wellFormed = true →
    step (s.withFetchWord 8 (encodeByte i).toNat) =
      exec i { s with cs := .asserted, spi := { s.spi with state := .awaitingInstruction }, out := Output.empty })

/-- A step stops in one case only, a `SpiByte` outside a chip-select assertion (R216; the refusal is D29, log 5); with
no event pending nothing changes (R8, log 1). -/
def Obligations.StepRefusesExactlyUnselectedBytes : Prop :=
  ∀ s : State,
    (∀ r : Refusal, step s = .refused r ↔
      r = .spiByteWhileDeselected ∧ s.cs = .deasserted ∧ ∃ b rest, s.pending = .spiByte b :: rest) ∧
    ((∃ t, step s = .next t) ↔ ¬(s.cs = .deasserted ∧ ∃ b rest, s.pending = .spiByte b :: rest)) ∧
    (s.pending = [] → step s = .next s)

/-- A master that clocks bytes only inside a chip-select assertion is never refused, whatever it and the bus send
(R216, R330; log 1, log 5). -/
def Obligations.SelectedMasterIsNeverRefused : Prop :=
  ∀ s : State, selectsBeforeClocking s.cs s.pending = true → RunsForever s

/-- R152, R162, R163: the address byte of READ, WRITE and BIT MODIFY and the mask byte. The dropped bit 7 is D11
(log 11), the output byte D12 (log 12). -/
def Obligations.AddressAndMaskBytes : Prop :=
  ∀ (s : State) (b : Byte) (rest : List Event),
    (ClocksByte s .awaitingAddress b rest →
      step s = .next { s with
        pending := rest
        out := { Output.empty with miso := some 0xFF }
        spi := { s.spi with
          address := b.setWidth 7
          state := if s.spi.addrThenWrite then .writingData else .readingData } }) ∧
    (ClocksByte s .awaitingModifyAddress b rest →
      step s = .next { s with
        pending := rest
        out := { Output.empty with miso := some 0xFF }
        spi := { s.spi with address := b.setWidth 7, state := .awaitingModifyMask } }) ∧
    (ClocksByte s .awaitingModifyMask b rest →
      step s = .next { s with
        pending := rest
        out := { Output.empty with miso := some 0xFF }
        spi := { s.spi with modifyMask := b, state := .modifyingData } })

/-- R159 with R94 and R89: a byte in `ReadingData` answers the register under the cursor, 0x00 for a config-only
register outside CONFIG mode (the mode tested is D41, log 24), and advances the cursor; nothing else changes. -/
def Obligations.ReadingDataByte : Prop :=
  ∀ (s : State) (b : Byte) (rest : List Event), ClocksByte s .readingData b rest →
    step s = .next { s with
      pending := rest
      out := { Output.empty with
        miso := some (if (resolve s.spi.address).configOnlyRead = true ∧ s.mode ≠ modeConfig then 0x00
          else s.raw s.spi.address) }
      spi := { s.spi with address := BitVec.ofNat 7 ((s.spi.address.toNat + 1) % 128) } }

/-- R155: a byte in `WritingData` is one register write at the cursor, then the cursor advances; the session is
otherwise as it was. The output byte is D12 (log 12). -/
def Obligations.WritingDataByte : Prop :=
  ∀ (s : State) (b : Byte) (rest : List Event), ClocksByte s .writingData b rest →
    ∃ u, u = update s.spi.address b { s with pending := rest, out := Output.empty } ∧
      u.spi = s.spi ∧ u.cs = s.cs ∧ u.pending = rest ∧
      step s = .next { u with
        out := { u.out with miso := some 0xFF }
        spi := { s.spi with address := BitVec.ofNat 7 ((s.spi.address.toNat + 1) % 128) } }

/-- R165, R166: a byte in `ModifyingData` writes the merge of the data byte and the stored byte under the modify mask,
or the whole data byte if the register is not bit-modifiable; session unchanged (D12, D15: log 12, log 14). For a
register without side effect the stored result is given bit by bit. -/
def Obligations.ModifyingDataByte : Prop :=
  (∀ (s : State) (b : Byte) (rest : List Event), ClocksByte s .modifyingData b rest →
    ∃ mm merged u,
      mm = (if (resolve s.spi.address).bitModifiable then s.spi.modifyMask else 0xFF) ∧
      merged = (b &&& mm) ||| (s.raw s.spi.address &&& ~~~mm) ∧
      u = update s.spi.address merged { s with pending := rest, out := Output.empty } ∧
      u.spi = s.spi ∧ u.cs = s.cs ∧ u.pending = rest ∧
      step s = .next { u with out := { u.out with miso := some 0xFF } } ∧
      (plainSlot (resolve s.spi.address).slot = true →
        ∀ i, bit (u.raw s.spi.address) i =
          if bit (resolve s.spi.address).writeMask i && bit mm i then bit b i else bit (s.raw s.spi.address) i)) ∧
  (∀ a : Addr, (resolve a).bitModifiable = true ↔
    (resolve a).slot ∈ [Slot.canctrl, .bfpctrl, .cnf1, .cnf2, .cnf3, .caninte, .canintf, .eflg,
      .tx 0 .ctrl, .tx 1 .ctrl, .tx 2 .ctrl, .rx 0 .ctrl, .rx 1 .ctrl])

/-- R212: in `Idle` a byte answers 0xFF and changes nothing; `Idle` is entered by RESET, RTS and invalid commands and
by nothing else, and left by chip-select assertion or device reset only. -/
def Obligations.IdleIsTerminal : Prop :=
  (∀ (s : State) (b : Byte) (rest : List Event), ClocksByte s .idle b rest →
    step s = .next { s with pending := rest, out := { Output.empty with miso := some 0xFF } }) ∧
  (∀ (i : Instr) (s t : State), exec i s = .next t →
    (t.spi.state = .idle ↔ i = .reset ∨ (∃ nnn, i = .rts nnn) ∨ ∃ b, i = .invalid b)) ∧
  (∀ (s t : State) (e : Event) (rest : List Event), s.pending = e :: rest → step s = .next t →
    (s.spi.state ≠ .idle → t.spi.state = .idle → s.spi.state = .awaitingInstruction ∧ ∃ b, e = .spiByte b) ∧
    (s.spi.state = .idle → t.spi.state ≠ .idle → e = .csAssert ∨ e = .deviceReset))

/-- R207, R210: the two status states answer the status byte of the registers as they are now, and stay. -/
def Obligations.StatusBytesAnswered : Prop :=
  ∀ (s : State) (b : Byte) (rest : List Event),
    (ClocksByte s .readingStatus b rest →
      step s = .next { s with
        pending := rest, out := { Output.empty with miso := some (statusByte s.reg) } }) ∧
    (ClocksByte s .readingRxStatus b rest →
      step s = .next { s with
        pending := rest, out := { Output.empty with miso := some (rxStatusByte s.reg) } })

/-- R208, R211: the two layouts, bit by bit. Both are the spec's decisions D13 and D14 (log 13). -/
def Obligations.StatusByteLayouts : Prop :=
  (∀ r : RegFile,
    bit (statusByte r) 0 = bit r.canintf 0 ∧ bit (statusByte r) 1 = bit r.canintf 1 ∧
    bit (statusByte r) 2 = bit r.tx[0].ctrl 3 ∧ bit (statusByte r) 3 = bit r.canintf 2 ∧
    bit (statusByte r) 4 = bit r.tx[1].ctrl 3 ∧ bit (statusByte r) 5 = bit r.canintf 3 ∧
    bit (statusByte r) 6 = bit r.tx[2].ctrl 3 ∧ bit (statusByte r) 7 = bit r.canintf 4) ∧
  (∀ r : RegFile,
    bit (rxStatusByte r) 6 = bit r.canintf 0 ∧ bit (rxStatusByte r) 7 = bit r.canintf 1 ∧
    bit (rxStatusByte r) 5 = false ∧
    (bit r.canintf 0 = true →
      bit (rxStatusByte r) 4 = bit r.rx[0].id.sidl 3 ∧ bit (rxStatusByte r) 3 = bit r.rx[0].ctrl 3 ∧
      (rxStatusByte r &&& 0x07).toNat = (if bit r.rx[0].ctrl 0 then 1 else 0)) ∧
    (bit r.canintf 0 = false → bit r.canintf 1 = true →
      bit (rxStatusByte r) 4 = bit r.rx[1].id.sidl 3 ∧ bit (rxStatusByte r) 3 = bit r.rx[1].ctrl 3 ∧
      (rxStatusByte r &&& 0x07).toNat =
        (if 2 ≤ (r.rx[1].ctrl &&& 0x07).toNat then (r.rx[1].ctrl &&& 0x07).toNat
          else 6 + (r.rx[1].ctrl &&& 0x07).toNat)) ∧
    (bit r.canintf 0 = false → bit r.canintf 1 = false → rxStatusByte r &&& 0x1F = 0x00))

/-! ### The commands -/

/-- R150, R151, R161: the command bytes of READ, WRITE and BIT MODIFY change the SPI state and nothing else. -/
def Obligations.ReadWriteBitmodCommandBytes : Prop :=
  decodeByte 0x03 = .read ∧ decodeByte 0x02 = .write ∧ decodeByte 0x05 = .bitmod ∧
  ∀ s : State,
    exec .read s = .next { s with
      spi := { s.spi with addrThenWrite := false, state := .awaitingAddress }
      out := { s.out with miso := some 0xFF } } ∧
    exec .write s = .next { s with
      spi := { s.spi with addrThenWrite := true, state := .awaitingAddress }
      out := { s.out with miso := some 0xFF } } ∧
    exec .bitmod s = .next { s with
      spi := { s.spi with state := .awaitingModifyAddress }
      out := { s.out with miso := some 0xFF } }

/-- R206, R209: the command bytes of READ STATUS and RX STATUS. -/
def Obligations.StatusCommandBytes : Prop :=
  decodeByte 0xA0 = .rdstat ∧ decodeByte 0xB0 = .rxstat ∧
  ∀ s : State,
    exec .rdstat s = .next { s with
      spi := { s.spi with state := .readingStatus }, out := { s.out with miso := some 0xFF } } ∧
    exec .rxstat s = .next { s with
      spi := { s.spi with state := .readingRxStatus }, out := { s.out with miso := some 0xFF } }

/-- R180: READ RX BUFFER, by its command byte `b`. -/
def Obligations.ReadRxBufferCommand : Prop :=
  ∀ (n m : BitVec 1) (s : State), ∃ b,
    b = encodeByte (.rdrxb n m) ∧ decodeByte b = .rdrxb n m ∧ b ∈ [0x90#8, 0x92#8, 0x94#8, 0x96#8] ∧
    exec (.rdrxb n m) s = .next { s with
      spi := { s.spi with
        address := if b = 0x90 then 0x61 else if b = 0x92 then 0x66 else if b = 0x94 then 0x71 else 0x76
        rxMemo := some (Fin.ofNat 2 ((b - 0x90) >>> 2).toNat)
        state := .readingData }
      out := { s.out with miso := some 0xFF } }

/-- R185: LOAD TX BUFFER, by its command byte `b`; the table has six entries for the six bytes 0x40 to 0x45, and the
two bytes after them are invalid commands. -/
def Obligations.LoadTxBufferCommand : Prop :=
  decodeByte 0x46 = .invalid 0x46 ∧ decodeByte 0x47 = .invalid 0x47 ∧
  ∀ (i : Instr) (b : Byte) (s : State),
    ((∃ bc, i = .ldtxbLow bc) ∨ ∃ c, i = .ldtxbHigh c) → b = encodeByte i →
    decodeByte b = i ∧ 0x40 ≤ b.toNat ∧ b.toNat ≤ 0x45 ∧
    ∃ a, [0x31#7, 0x36#7, 0x41#7, 0x46#7, 0x51#7, 0x56#7][b.toNat - 0x40]? = some a ∧
      exec i s = .next { s with
        spi := { s.spi with address := a, state := .writingData }
        out := { s.out with miso := some 0xFF } }

/-- R200, R201: RESET sets every register, `irq_prev` and the pins and leaves the session but for `Idle`. The values
0x80 and 0x87 and the pins are D1, D2 and D28 (log 6, 7, 21). -/
def Obligations.ResetCommand : Prop :=
  ∀ s : State, ∃ t, exec .reset s = .next t ∧
    t = { s with
      reg := t.reg
      irqPrev := 0x00
      pin := { irq := false, rx0bf := true, rx1bf := true }
      spi := { s.spi with state := .idle }
      out := { s.out with miso := some 0xFF } } ∧
    ∀ sl : Slot, t.reg.get sl =
      if sl = .canstat then 0x80 else if sl = .canctrl then 0x87 else 0x00

/-- R205: any command byte that R125 does not list as valid, the two past the LOAD TX BUFFER table among them, is
logged and ends in `Idle` with nothing else changed; the rest of its transaction answers 0xFF and changes nothing. -/
def Obligations.InvalidCommand : Prop :=
  (∀ (b : Byte) (s : State), b ∉ validCommandBytes → decodeByte b = .invalid b ∧
    exec (.invalid b) s = .next { s with
      spi := { s.spi with state := .idle }
      out := { s.out with miso := some 0xFF, log := s.out.log ++ [.invalidCommand] } }) ∧
  (0x46 ∉ validCommandBytes ∧ 0x47 ∉ validCommandBytes ∧ validCommandBytes.length = 24 ∧ validCommandBytes.Nodup) ∧
  (∀ (s t : State) (b c : Byte) (rest : List Event), b ∉ validCommandBytes →
    exec (.invalid b) s = .next t → s.cs = .asserted → s.pending = .spiByte c :: rest →
    step t = .next { t with pending := rest, out := { Output.empty with miso := some 0xFF } })

/-- R290, R204 (b): while ABAT is set, RTS changes no register. -/
def Obligations.RtsWhileAborting : Prop :=
  ∀ (nnn : BitVec 3) (s : State), s.abat = true →
    exec (.rts nnn) s = .next { s with
      spi := { s.spi with state := .idle }, out := { s.out with miso := some 0xFF } }

/-- R203, R290, R300: in CONFIG, LISTEN and SLEEP mode RTS clears ABTF and sets TXREQ of the buffers it names, and does
nothing else; bit `n` of the bitmap names buffer `n` (D27, log 20). -/
def Obligations.RtsQueuesOutsideSendingModes : Prop :=
  ∀ (nnn : BitVec 3) (s : State), s.abat = false → s.mode ≠ modeNormal → s.mode ≠ modeLoopback →
    ∃ t, exec (.rts nnn) s = .next t ∧
      (∀ n : Fin Config.nTx, t.reg.tx[n] =
        if nnn.getLsbD n.val then
          { s.reg.tx[n] with ctrl := setBit (setBit s.reg.tx[n].ctrl abtfBit false) txreqBit true }
        else s.reg.tx[n]) ∧
      t = { s with
        reg := { s.reg with tx := t.reg.tx }
        spi := { s.spi with state := .idle }
        out := { s.out with miso := some 0xFF } }

/-- R203, R290, R295, R298, R299: in NORMAL mode RTS hands the named buffers' frames to the bus in the order of R292,
clears their TXREQ and ABTF, raises their TXnIF, and changes nothing else. The bitmap is D27, the order of the frames
D31, the aggregator's gating D23 (log 19, 20, 24). -/
def Obligations.RtsInNormalModeSends : Prop :=
  ∀ (nnn : BitVec 3) (s : State), s.abat = false → s.mode = modeNormal → InterruptsCurrent s →
    ∃ t u, exec (.rts nnn) s = .next t ∧ u = raised (nnn.setWidth 8 <<< 2) s ∧
      (∀ n : Fin Config.nTx, t.reg.tx[n] =
        if nnn.getLsbD n.val then
          { s.reg.tx[n] with ctrl := setBit (setBit s.reg.tx[n].ctrl abtfBit false) txreqBit false }
        else s.reg.tx[n]) ∧
      t = { u with
        reg := { u.reg with tx := t.reg.tx }
        spi := { s.spi with state := .idle }
        out := { s.out with
          miso := some 0xFF
          busSent := s.out.busSent ++
            (sendOrder (fun n => txpField s.reg.tx[n].ctrl) nnn).map fun n => frameOf s.reg.tx[n] } }

/-- R297, R299, R291, R301 (f): in LOOPBACK mode RTS sends nothing to the bus; the named buffers' frames are received one
after another, in the order of R292, each as a frame from the bus is in LISTEN mode (filters, rollover, overflow), each
reception before the buffer's TXREQ is cleared and its TXnIF raised; nothing but the receive state changes besides.
Bitmap and order are D27 and D42 (log 20, 24), the aggregator's gating D23 (log 19). -/
def Obligations.RtsInLoopbackModeReceives : Prop :=
  ∀ (nnn : BitVec 3) (s : State), s.abat = false → s.mode = modeLoopback →
    ∃ t u, exec (.rts nnn) s = .next t ∧
      u = (sendOrder (fun n => txpField s.reg.tx[n].ctrl) nnn).foldl (loopedBack fun n => frameOf s.reg.tx[n]) s ∧
      (∀ n : Fin Config.nTx, t.reg.tx[n] =
        if nnn.getLsbD n.val then
          { s.reg.tx[n] with ctrl := setBit (setBit s.reg.tx[n].ctrl abtfBit false) txreqBit false }
        else s.reg.tx[n]) ∧
      (∀ n : Fin Config.nTx, nnn.getLsbD n.val = true → bit t.reg.canintf (2 + n.val) = true) ∧
      t = { u with
        reg := { u.reg with tx := t.reg.tx }
        spi := { s.spi with state := .idle }
        out := { s.out with miso := some 0xFF } } ∧
      t = { s with
        reg := { s.reg with
          tx := t.reg.tx, rx := t.reg.rx, canintf := t.reg.canintf, eflg := t.reg.eflg,
          canstat := setIcodField s.reg.canstat (icodField t.reg.canstat) }
        irqPrev := t.irqPrev
        pin := t.pin
        spi := { s.spi with state := .idle }
        out := { s.out with miso := some 0xFF } }

/-- R292 with R290: `request_to_send` serves exactly the requested buffers, once each, by descending TXP and for equal TXP
by ascending index; that bit `n` of the bitmap requests buffer `n`, and TXP as an unsigned number in bits 1:0, are the
model's choice (D27, D7: log 20, log 10). -/
def Obligations.SendOrderByPriority : Prop :=
  (∀ (txp : Fin Config.nTx → BitVec 2) (bitmap : BitVec 3),
    (∀ n : Fin Config.nTx, n ∈ sendOrder txp bitmap ↔ bitmap.getLsbD n.val = true) ∧
    (sendOrder txp bitmap).Pairwise
      fun a b => (txp b).toNat < (txp a).toNat ∨ (txp a = txp b ∧ a < b)) ∧
  (∀ (bitmap : BitVec 3) (s : State), s.abat = false →
    requestToSend bitmap s =
      (sendOrder (fun n => (s.reg.tx[n].ctrl).extractLsb' 0 2) bitmap).foldl requestOne s)

/-! ### The register space -/

/-- R92: the masked store changes no bit outside the write mask and no other register or state; with mask 0x00 it
changes nothing; `update` performs it and then the side effect of the slot. -/
def Obligations.MaskedStoreLaw : Prop :=
  ∀ (a : Addr) (v : Byte) (s : State),
    (maskedStore a v s).raw a =
      (s.raw a &&& ~~~(resolve a).writeMask) ||| (v &&& (resolve a).writeMask) ∧
    (∀ sl : Slot, sl ≠ (resolve a).slot → (maskedStore a v s).reg.get sl = s.reg.get sl) ∧
    maskedStore a v s = { s with reg := (maskedStore a v s).reg } ∧
    ((resolve a).writeMask = 0x00 → maskedStore a v s = s) ∧
    update a v s = sideEffect (resolve a).slot (maskedStore a v s)

/-- R86: two addresses reach one slot only if they are equal, both canstat or both canctrl. -/
def Obligations.AddressAliases : Prop :=
  ∀ a b : Addr, (resolve a).slot = (resolve b).slot ↔
    a = b ∨ (a.toNat % 16 = 14 ∧ b.toNat % 16 = 14) ∨ (a.toNat % 16 = 15 ∧ b.toNat % 16 = 15)

/-- R84, R85 with R22: what stands at every address, byte by byte: the register, its write mask, and whether it is
config-only and bit-modifiable. The masks of canctrl, caninte and canintf are the model's choice (D2, D4: log 7, log 9);
0x0B, 0x64 and 0x60 rest on bit places D7 and D8 (log 10). -/
def Obligations.BaseAddresses : Prop :=
  (∀ (k : Fin Config.nFilter) (j : Fin 4),
    resolve (BitVec.ofNat 7 ((if k.val < 3 then 0x00 + 4 * k.val else 0x10 + 4 * (k.val - 3)) + j.val)) =
      { slot := .filter k (#v[IdByte.sidh, .sidl, .eid8, .eid0][j]), writeMask := #v[0xFF#8, 0xEB, 0xFF, 0xFF][j]
        configOnlyRead := true, bitModifiable := false }) ∧
  (∀ (k : Fin Config.nMask) (j : Fin 4),
    resolve (BitVec.ofNat 7 (0x20 + 4 * k.val + j.val)) =
      { slot := .mask k (#v[IdByte.sidh, .sidl, .eid8, .eid0][j]), writeMask := #v[0xFF#8, 0xE3, 0xFF, 0xFF][j]
        configOnlyRead := true, bitModifiable := false }) ∧
  (∀ (n : Fin Config.nTx) (j : Fin 14),
    resolve (BitVec.ofNat 7 (0x30 + 16 * n.val + j.val)) =
      { slot := .tx n (#v[BufByte.ctrl, .id .sidh, .id .sidl, .id .eid8, .id .eid0, .dlc, .data 0, .data 1, .data 2,
          .data 3, .data 4, .data 5, .data 6, .data 7][j])
        writeMask := #v[0x0B#8, 0xFF, 0xEB, 0xFF, 0xFF, 0x4F, 0xFF, 0xFF, 0xFF, 0xFF, 0xFF, 0xFF, 0xFF, 0xFF][j]
        configOnlyRead := false, bitModifiable := decide (j = 0) }) ∧
  (∀ (n : Fin Config.nRx) (j : Fin 14),
    resolve (BitVec.ofNat 7 (0x60 + 16 * n.val + j.val)) =
      { slot := .rx n (#v[BufByte.ctrl, .id .sidh, .id .sidl, .id .eid8, .id .eid0, .dlc, .data 0, .data 1, .data 2,
          .data 3, .data 4, .data 5, .data 6, .data 7][j])
        writeMask := if j = 0 then #v[0x64#8, 0x60][n] else 0x00
        configOnlyRead := false, bitModifiable := decide (j = 0) }) ∧
  (∀ row : Fin 8,
    resolve (BitVec.ofNat 7 (0x0E + 16 * row.val)) = ⟨.canstat, 0x00, false, false⟩ ∧
    resolve (BitVec.ofNat 7 (0x0F + 16 * row.val)) = ⟨.canctrl, 0xFF, false, true⟩) ∧
  (resolve 0x0C = ⟨.bfpctrl, 0x3F, false, true⟩ ∧ resolve 0x0D = ⟨.txrtsctrl, 0x07, true, false⟩ ∧
    resolve 0x1C = ⟨.tecReg, 0x00, false, false⟩ ∧ resolve 0x1D = ⟨.recReg, 0x00, false, false⟩ ∧
    resolve 0x28 = ⟨.cnf3, 0xC7, true, true⟩ ∧ resolve 0x29 = ⟨.cnf2, 0xFF, true, true⟩ ∧
    resolve 0x2A = ⟨.cnf1, 0xFF, true, true⟩ ∧ resolve 0x2B = ⟨.caninte, 0xFF, false, true⟩ ∧
    resolve 0x2C = ⟨.canintf, 0xFF, false, true⟩ ∧ resolve 0x2D = ⟨.eflg, 0xC0, false, true⟩)

/-- R94: outside CONFIG mode the 36 filter, mask, txrtsctrl and cnf addresses read 0x00; every other read gives the
stored byte. The mode tested is the active one (D41, log 24). -/
def Obligations.ConfigOnlyGate : Prop :=
  ∀ (a : Addr) (s : State), memRead a s =
    if (a.toNat < 0x0C ∨ a.toNat = 0x0D ∨ (0x10 ≤ a.toNat ∧ a.toNat < 0x1C) ∨
        (0x20 ≤ a.toNat ∧ a.toNat < 0x2B)) ∧ s.mode ≠ modeConfig
    then 0x00 else s.raw a

/-- R237, R157: a write to a register without side effect stores under the write mask and does nothing else; it reads
back as `(old & ~M) | (V & M)` where it can be read, and every other address reads as before. -/
def Obligations.PlainRegisterWrites : Prop :=
  ∀ (a : Addr) (v : Byte) (s : State), plainSlot (resolve a).slot = true →
    ∃ t, t = update a v s ∧ t = { s with reg := t.reg } ∧
      t.raw a = (s.raw a &&& ~~~(resolve a).writeMask) ||| (v &&& (resolve a).writeMask) ∧
      ((resolve a).configOnlyRead = false ∨ s.mode = modeConfig → memRead a t = t.raw a) ∧
      ∀ c : Addr, (resolve c).slot ≠ (resolve a).slot → t.raw c = s.raw c ∧ memRead c t = memRead c s

/-- R232, R345: a write to bfpctrl drives both RXnBF pins from the new value and the raw RX-full flags, and changes
nothing else. The bit positions are D9 (log 10). -/
def Obligations.BufferPinControlWrite : Prop :=
  ∀ (v : Byte) (s : State), update 0x0C v s =
    { s with
      reg := { s.reg with bfpctrl := (s.reg.bfpctrl &&& 0xC0) ||| (v &&& 0x3F) }
      pin := { s.pin with
        rx0bf := !bit v 2 || (if bit v 0 then !bit s.reg.canintf 0 else bit v 4)
        rx1bf := !bit v 3 || (if bit v 1 then !bit s.reg.canintf 1 else bit v 5) } }

/-- R235: a write to tx[n].ctrl while ABAT is 1 stores under the mask with TXREQ force-cleared; ABTF is left as it is,
nothing is sent, nothing else changes. -/
def Obligations.TxControlWriteUnderAbat : Prop :=
  ∀ (n : Fin Config.nTx) (v : Byte) (s : State), s.abat = true →
    ∃ c, c = setBit (mergeMasked s.reg.tx[n].ctrl v (resolve (txCtrlAddress n)).writeMask) txreqBit false ∧
      bit c abtfBit = bit s.reg.tx[n].ctrl abtfBit ∧ bit c txreqBit = false ∧
      update (txCtrlAddress n) v s =
        { s with reg := { s.reg with tx := s.reg.tx.set n { s.reg.tx[n] with ctrl := c } } }

/-- R236, R295, R297 to R299, R341: a write to tx[n].ctrl while ABAT is 0 clears ABTF; without TXREQ, or in a mode that
does not send, that is all; with TXREQ in NORMAL mode the buffer's frame goes to the bus at once, TXREQ is 0 again and
TXnIF raised; in LOOPBACK mode the frame is received instead. The model's choices: what raising TXnIF does D23 (log 19),
its place D4 (log 9), the frame on the bus D31 and the order in LOOPBACK D42 (log 24), the places of ABTF and TXREQ D7
(log 10). -/
def Obligations.TxControlWriteWithoutAbat : Prop :=
  ∀ (n : Fin Config.nTx) (v : Byte) (s : State), s.abat = false →
    ∃ c t, c = setBit (mergeMasked s.reg.tx[n].ctrl v (resolve (txCtrlAddress n)).writeMask) abtfBit false ∧
      t = update (txCtrlAddress n) v s ∧
      (bit c txreqBit = false ∨ (s.mode ≠ modeNormal ∧ s.mode ≠ modeLoopback) →
        t = { s with reg := { s.reg with tx := s.reg.tx.set n { s.reg.tx[n] with ctrl := c } } }) ∧
      (bit c txreqBit = true → s.mode = modeNormal ∨ s.mode = modeLoopback →
        t.reg.tx = s.reg.tx.set n { s.reg.tx[n] with ctrl := setBit c txreqBit false } ∧
        bit t.reg.canintf (2 + n.val) = true ∧
        t.out = if s.mode = modeNormal then
            { s.out with busSent := s.out.busSent ++ [frameOf s.reg.tx[n]] } else s.out) ∧
      (bit c txreqBit = true → s.mode = modeNormal →
        t = { raised (flagTx n) s with
          reg := { (raised (flagTx n) s).reg with tx := t.reg.tx }, out := t.out }) ∧
      (bit c txreqBit = true → s.mode = modeLoopback →
        ∃ u, u = loopedBack (fun m => frameOf s.reg.tx[m]) s n ∧
          t = { u with reg := { u.reg with tx := t.reg.tx } })

/-- R234: a write to rx[0].ctrl stores RXM and BUKT and copies BUKT into BUKT1; a write to rx[1].ctrl stores RXM; neither
changes anything else. The bit positions are D6 to D10 (log 10). -/
def Obligations.BuktWriteIsMirrored : Prop :=
  ∀ (v : Byte) (s : State),
    update 0x60 v s = { s with reg := { s.reg with rx := s.reg.rx.set 0 { s.reg.rx[0] with
      ctrl := (s.reg.rx[0].ctrl &&& 0x99) ||| (v &&& 0x64) ||| (if bit v 2 then 0x02 else 0x00) } } } ∧
    update 0x70 v s = { s with reg := { s.reg with rx := s.reg.rx.set 1 { s.reg.rx[1] with
      ctrl := (s.reg.rx[1].ctrl &&& 0x9F) ||| (v &&& 0x60) } } }

/-! ### Interrupts -/

/-- R231 with R341: a write to caninte or canintf stores the whole byte and brings the interrupt code, `irq_prev` and
the pins up to date, waking a sleeping chip if WAKIF becomes effective. The 0xFF masks are D4, the gating D23 (log 9,
log 19). -/
def Obligations.InterruptRegisterWrites : Prop :=
  ∀ (v : Byte) (s : State), SleepRequestsListen s → RequestsConsistent s →
    update 0x2B v s = raised 0x00 { s with reg := { s.reg with caninte := v } } ∧
    update 0x2C v s = raised 0x00 { s with reg := { s.reg with canintf := v } }

/-- R343: the interrupt code is that of the highest-priority effective source; the numbers are D5 (log 8). -/
def Obligations.InterruptCodePriority : Prop :=
  ∀ eff : Byte,
    (icod eff = 0 ↔ eff = 0x00) ∧
    (icod eff = 1 ↔ eff &&& 0xA0 ≠ 0x00) ∧
    (icod eff = 2 ↔ eff &&& 0xE0 = 0x40) ∧
    (icod eff = 3 ↔ eff &&& 0xE4 = 0x04) ∧
    (icod eff = 4 ↔ eff &&& 0xEC = 0x08) ∧
    (icod eff = 5 ↔ eff &&& 0xFC = 0x10) ∧
    (icod eff = 6 ↔ eff &&& 0xFD = 0x01) ∧
    (icod eff = 7 ↔ eff &&& 0xFF = 0x02)

/-- R341, R344, R318: everything `irq_raise` does, in states where a sleeping chip requests LISTEN and the request bits
are consistent (`LegalKeptByStep` says these hold of every step's result). "If changed" is D23 (log 19). -/
def Obligations.InterruptRaiseLaw : Prop :=
  ∀ (flags : Byte) (s : State), SleepRequestsListen s → RequestsConsistent s → irqRaise flags s = raised flags s

/-- R214, R215: the chip-select edges without a READ RX BUFFER in between; an event that is no edge does nothing (D37,
log 5). -/
def Obligations.ChipSelectEdges : Prop :=
  ∀ (s : State) (rest : List Event),
    (s.pending = .csAssert :: rest → s.cs = .deasserted →
      step s = .next { s with
        pending := rest, out := Output.empty, cs := .asserted
        spi := { s.spi with state := .awaitingInstruction, rxMemo := none } }) ∧
    (s.pending = .csAssert :: rest → s.cs = .asserted →
      step s = .next { s with pending := rest, out := Output.empty }) ∧
    (s.pending = .csDeassert :: rest → s.cs = .asserted → s.spi.rxMemo = none →
      step s = .next { s with pending := rest, out := Output.empty, cs := .deasserted }) ∧
    (s.pending = .csDeassert :: rest → s.cs = .deasserted →
      step s = .next { s with pending := rest, out := Output.empty })

/-- R183, R215, R347: the end of a READ RX BUFFER transaction clears the RX-full flag of the remembered buffer, brings
the interrupt state up to date and forgets the memo; nothing else changes. -/
def Obligations.EndOfReadRxBufferFreesBuffer : Prop :=
  ∀ (s : State) (i : Fin Config.nRx) (rest : List Event),
    s.pending = .csDeassert :: rest → s.cs = .asserted → s.spi.rxMemo = some i →
    SleepRequestsListen s → RequestsConsistent s →
    ∃ u, u = raised 0x00 { s with reg := { s.reg with canintf := setBit s.reg.canintf i.val false } } ∧
      u.reg.rxFull i = false ∧
      step s = .next { u with
        pending := rest, out := Output.empty, cs := .deasserted, spi := { s.spi with rxMemo := none } }

/-! ### Reception -/

/-- R256 to R259: a filter accepts a frame of its kind whose bits agree with it wherever the mask has a 1. For an
extended frame the 29 identifier bits are compared; for a standard frame the 11 identifier bits, and the first two
payload bytes where the frame has them (kind and forced bits are D17, D18: log 15). -/
def Obligations.FilterMatchIsMaskedComparison : Prop :=
  ∀ (f : Frame) (msk flt : IdRegs),
    (f.ext = true → (matchesFilter f msk flt = true ↔
      bit flt.sidl 3 = true ∧
      ∀ i, i < 29 → (pack msk).getLsbD i = true → (pack flt).getLsbD i = f.id.getLsbD i)) ∧
    (f.ext = false → (matchesFilter f msk flt = true ↔
      bit flt.sidl 3 = false ∧
      (∀ i, i < 11 → (pack msk).getLsbD (18 + i) = true → (pack flt).getLsbD (18 + i) = f.id.getLsbD i) ∧
      (f.rtr = false → 1 ≤ f.len.toNat → msk.eid8 &&& (flt.eid8 ^^^ f.data[0]) = 0x00) ∧
      (f.rtr = false → 2 ≤ f.len.toNat → msk.eid0 &&& (flt.eid0 ^^^ f.data[1]) = 0x00)))

/-- R259, R261: under an all-zero mask a filter accepts every frame of its kind; under an all-ones mask a standard
filter accepts exactly the standard frames with its identifier whose first two payload bytes, where the frame has
them, are the filter's EID8 and EID0 (D17, D18: log 15). -/
def Obligations.ZeroMaskAndFullMask : Prop :=
  (∀ (f : Frame) (flt : IdRegs),
    matchesFilter f { sidh := 0x00, sidl := 0x00, eid8 := 0x00, eid0 := 0x00 } flt = (f.ext == bit flt.sidl 3)) ∧
  (∀ (f : Frame) (flt : IdRegs), bit flt.sidl 3 = false →
    (matchesFilter f { sidh := 0xFF, sidl := 0xE3, eid8 := 0xFF, eid0 := 0xFF } flt = true ↔
      f.ext = false ∧ f.id.toNat % 2048 = flt.sidh.toNat * 8 + flt.sidl.toNat / 32 ∧
      (f.rtr = false → 1 ≤ f.len.toNat → f.data[0] = flt.eid8) ∧
      (f.rtr = false → 2 ≤ f.len.toNat → f.data[1] = flt.eid0)))

/-- R254, R255: RXM 0b11 accepts as filter 0, 0b01 and 0b10 are invalid, and with RXM 0b00 the first matching filter of
the buffer wins, under the buffer's own mask (indices are D16, log 15). -/
def Obligations.FilterScanOrder : Prop :=
  ∀ (f : Frame) (b : Fin Config.nRx) (r : RegFile),
    (∀ k, checkFilters f b r = .matched k ↔
      (rxmField r.rx[b].ctrl = 0b11 ∧ k = 0) ∨
      (rxmField r.rx[b].ctrl = 0b00 ∧ (if b = 0 then k.val < 2 else 2 ≤ k.val) ∧
        matchesFilter f r.masks[b] r.filters[k] = true ∧
        ∀ j : Fin Config.nFilter, j < k → (if b = 0 then j.val < 2 else 2 ≤ j.val) →
          matchesFilter f r.masks[b] r.filters[j] = false)) ∧
    (checkFilters f b r = .invalidConfig ↔ rxmField r.rx[b].ctrl = 0b01 ∨ rxmField r.rx[b].ctrl = 0b10)

/-- R253, R262, R266, R267: in NORMAL and LISTEN mode an accepted frame is stored, in buffer 0, by rollover in buffer 1,
or in buffer 1, and its RX-full flag raised last; nothing else changes. The stored layout is D19, the result D21
(log 16, log 18). -/
def Obligations.AcceptedFrameIsStored : Prop :=
  ∀ (s : State) (f : Frame) (rest : List Event) (b : Fin Config.nRx) (k : Fin Config.nFilter),
    s.pending = .busRx f :: rest → CleanFrame f → ReceivingMode s → StoredIn f s.reg b k →
    ∃ u, u = raised (flagRx b) { s with reg := { s.reg with
        rx := s.reg.rx.set b (storedBuffer f b k s.reg.rx[b]) } } ∧
      u.reg.rxFull b = true ∧
      step s = .next { u with pending := rest, out := { Output.empty with accepted := some true } }

/-- R268, R335: an accepted frame that finds its buffer full and cannot roll over is dropped: the overflow bit is set,
ERRIF raised, and nothing else changes. ERRIF is D20 (log 17). -/
def Obligations.OverflowDropsFrame : Prop :=
  ∀ (s : State) (f : Frame) (rest : List Event) (n : Fin Config.nRx),
    s.pending = .busRx f :: rest → CleanFrame f → ReceivingMode s → OverflowsIn f s.reg n →
    step s = .next { raised 0x20 { s with reg := { s.reg with eflg := setBit s.reg.eflg (6 + n.val) true } } with
      pending := rest, out := { Output.empty with accepted := some true } }

/-- R251, R253, R269, R334: a frame with an error mark or generic flags, or offered in CONFIG or LOOPBACK mode, is
refused; one that no filter accepts (an invalid RXM accepts nothing) is dropped silently; no register changes. The
results are D21 (log 18). -/
def Obligations.RefusedAndUnmatchedFrames : Prop :=
  ∀ (s : State) (f : Frame) (rest : List Event), s.pending = .busRx f :: rest →
    (¬CleanFrame f ∨ s.mode = modeConfig ∨ s.mode = modeLoopback →
      step s = .next { s with pending := rest, out := { Output.empty with accepted := some false } }) ∧
    (CleanFrame f → ReceivingMode s →
      (∀ (b : Fin Config.nRx) (k : Fin Config.nFilter), checkFilters f b s.reg ≠ .matched k) →
      step s = .next { s with pending := rest, out := { Output.empty with accepted := some true } })

/-- R252: a frame in SLEEP mode raises WAKIF, which may wake the chip into LISTEN mode, and is lost: nothing else
changes. The result is D21 (log 18). -/
def Obligations.SleepingChipFrame : Prop :=
  ∀ (s : State) (f : Frame) (rest : List Event), s.pending = .busRx f :: rest → CleanFrame f → s.mode = modeSleep →
    SleepRequestsListen s → RequestsConsistent s →
    ∃ u, u = raised 0x40 s ∧
      u.mode = (if bit s.reg.caninte 6 && !bit s.irqPrev 6 then modeListen else modeSleep) ∧
      step s = .next { u with pending := rest, out := { Output.empty with accepted := some true } }

/-- R263 to R266: what an RX buffer holds after `dispatch` gives the frame back: identifier, kind, remote flag, length,
payload, filter index; the other control bits and the payload beyond the length are unchanged. For an extended frame
`frame_of` of the buffer is the frame. The layout is D19 (log 16). The last clause is R296: every field of `frame_of` of
every buffer, from its bytes. -/
def Obligations.StoredFrameReadsBack : Prop :=
  (∀ (f : Frame) (b : Fin Config.nRx) (k : Fin Config.nFilter) (old : Buffer),
    ∃ t, t = storedBuffer f b k old ∧
      bit t.id.sidl exideBit = f.ext ∧
      (f.ext = true → pack t.id = f.id.setWidth 32) ∧
      (f.ext = false → (frameOf t).id.toNat = f.id.toNat % 2048 ∧ bit t.id.sidl 4 = f.rtr ∧
        t.id.eid8 = 0x00 ∧ t.id.eid0 = 0x00) ∧
      (f.ext = true → f.len.toNat ≤ 8 → (∀ j : Fin 8, f.len.toNat ≤ j.val → f.data[j] = 0x00) → CleanFrame f →
        frameOf t = f) ∧
      (t.dlc &&& 0x0F).toNat = min f.len.toNat 8 ∧ bit t.dlc rtrBit = (f.ext && f.rtr) ∧
      (∀ j : Fin 8, t.data[j] = if j.val < min f.len.toNat 8 then f.data[j] else old.data[j]) ∧
      bit t.ctrl rxrtrBit = f.rtr ∧
      (b = 0 → bit t.ctrl filhit0Bit = decide (0 < k.val) ∧ t.ctrl &&& 0xF6 = old.ctrl &&& 0xF6) ∧
      (b = 1 → (filhitField t.ctrl).toNat = k.val ∧ t.ctrl &&& 0xF0 = old.ctrl &&& 0xF0)) ∧
  (∀ t : Buffer,
    (frameOf t).ext = bit t.id.sidl 3 ∧
    (bit t.id.sidl 3 = false → (frameOf t).id.toNat = 8 * t.id.sidh.toNat + t.id.sidl.toNat / 32) ∧
    (bit t.id.sidl 3 = true → (frameOf t).id.toNat =
      (8 * t.id.sidh.toNat + t.id.sidl.toNat / 32) * 2 ^ 18 + (t.id.sidl.toNat % 4) * 2 ^ 16 +
        t.id.eid8.toNat * 2 ^ 8 + t.id.eid0.toNat) ∧
    (frameOf t).len.toNat = min (t.dlc.toNat % 16) 8 ∧
    (frameOf t).rtr = bit t.dlc 6 ∧
    (∀ j : Fin 8, (frameOf t).data[j] = if j.val < min (t.dlc.toNat % 16) 8 then t.data[j] else 0x00) ∧
    (frameOf t).err = false ∧ (frameOf t).flags = 0)

/-- R271: a received frame never changes a TX buffer, a filter, a mask, canctrl, tec or rec, nor any register the
master configures, and never produces a `busSend`; canstat changes only in the interrupt code and by a wake-up. -/
def Obligations.BusRxTouchesOnlyReceiveState : Prop :=
  ∀ (s t : State) (f : Frame) (rest : List Event), SleepRequestsListen s → RequestsConsistent s →
    s.pending = .busRx f :: rest → step s = .next t →
    t.out.busSent = [] ∧
    (t.mode = s.mode ∨ (s.mode = modeSleep ∧ t.mode = modeListen)) ∧
    t = { s with
      reg := { s.reg with
        rx := t.reg.rx, canintf := t.reg.canintf, eflg := t.reg.eflg,
        canstat := setModeField (setIcodField s.reg.canstat (icodField t.reg.canstat)) t.mode }
      irqPrev := t.irqPrev
      pin := t.pin
      pending := rest
      out := t.out }

/-! ### Modes -/

/-- R317: the active mode and the request read back after a write to canctrl, through any of its eight addresses, from
any legal active mode; the low five bits are stored. With ABAT clear, and unless NORMAL or LOOPBACK is entered
(`ModeChangeServesBuffers0And1`), nothing else changes (R310, R313, R319 (e)) but that a mode change's re-run clears ABTF
of those of buffers 0 and 1 still pending. The encodings are D1, the mask D2, the re-run D25 (log 6, log 7, log 20). -/
def Obligations.ModeTransitionTable : Prop :=
  ∀ (row : Fin 8) (v : Byte) (s : State), s.mode.toNat ≤ 4 →
    ∃ t, t = update (canctrlAddress row) v s ∧
      t.reg.canctrl &&& 0x1F = v &&& 0x1F ∧
      (t.mode, t.reqMode) =
        (if s.mode = modeSleep then (modeSleep, modeListen)
        else if modeField v = modeSleep then (modeSleep, modeListen)
        else if 4 < (modeField v).toNat then (s.mode, s.mode)
        else (modeField v, modeField v)) ∧
      (bit v abatBit = false → t.mode = s.mode ∨ (t.mode ≠ modeNormal ∧ t.mode ≠ modeLoopback) →
        (∀ n : Fin Config.nTx, t.reg.tx[n] =
          if t.mode ≠ s.mode ∧ n ≠ 2 ∧ s.txreq n = true then
            { s.reg.tx[n] with ctrl := setBit s.reg.tx[n].ctrl abtfBit false }
          else s.reg.tx[n]) ∧
        t = { s with
          reg := { s.reg with
            tx := t.reg.tx
            canctrl := t.reg.canctrl
            canstat := setModeField s.reg.canstat t.mode } })

/-- R315, R318: one step leaves SLEEP only by a wake-up, into LISTEN, when WAKIF newly becomes effective, or by a reset,
into CONFIG. -/
def Obligations.OnlyWakeOrResetLeavesSleep : Prop :=
  ∀ s t : State, SleepRequestsListen s → s.mode = modeSleep → step s = .next t → t.mode ≠ modeSleep →
    (t.mode = modeListen ∧ bit s.irqPrev 6 = false ∧ bit t.irqPrev 6 = true) ∨
    (t.mode = modeConfig ∧
      ((∃ rest, s.pending = .deviceReset :: rest) ∨
        ∃ rest, ClocksByte s .awaitingInstruction 0xC0 rest))

/-- R311, R319 (a), (b): a write to canctrl with ABAT set aborts the pending requests of TX buffers 0 and 1, leaves
buffer 2 alone and sends nothing, even if it changes the mode (D24, log 20). -/
def Obligations.AbatAbortsBuffers0And1 : Prop :=
  ∀ (row : Fin 8) (v : Byte) (s : State), bit v abatBit = true →
    ∃ t, t = update (canctrlAddress row) v s ∧
      (∀ n : Fin Config.nTx, t.reg.tx[n] =
        if n ≠ 2 ∧ s.txreq n = true then
          { s.reg.tx[n] with ctrl := setBit (setBit s.reg.tx[n].ctrl txreqBit false) abtfBit true }
        else s.reg.tx[n]) ∧
      t = { s with
        reg := { s.reg with
          tx := t.reg.tx
          canctrl := t.reg.canctrl
          canstat := setModeField s.reg.canstat t.mode } }

/-- R313, R300, R319 (d), R383: a write to canctrl that enters NORMAL mode sends the pending buffers 0 and 1 in the
order of R292; one that enters LOOPBACK mode has their frames received one after another in that order (R297); no write
to canctrl touches TX buffer 2. The re-run's bitmap is D25, the order in LOOPBACK D42, the frames on the bus D31, the
aggregator's gating D23 (log 20, log 24, log 19). -/
def Obligations.ModeChangeServesBuffers0And1 : Prop :=
  (∀ (row : Fin 8) (v : Byte) (s : State), (update (canctrlAddress row) v s).reg.tx[2] = s.reg.tx[2]) ∧
  (∀ (row : Fin 8) (v : Byte) (s : State), bit v abatBit = false → modeField v = modeNormal →
    s.mode ≠ modeNormal → s.mode ≠ modeSleep → InterruptsCurrent s →
    ∃ t u bitmap, t = update (canctrlAddress row) v s ∧
      bitmap = (if s.txreq 0 then 1#3 else 0#3) ||| (if s.txreq 1 then 2#3 else 0#3) ∧
      u = raised (bitmap.setWidth 8 <<< 2) (s.setCanstat (setModeField s.reg.canstat modeNormal)) ∧
      (∀ n : Fin Config.nTx, t.reg.tx[n] =
        if bitmap.getLsbD n.val then
          { s.reg.tx[n] with ctrl := setBit (setBit s.reg.tx[n].ctrl abtfBit false) txreqBit false }
        else s.reg.tx[n]) ∧
      t = { u with
        reg := { u.reg with tx := t.reg.tx, canctrl := v }
        out := { s.out with busSent := s.out.busSent ++
          (sendOrder (fun n => txpField s.reg.tx[n].ctrl) bitmap).map fun n => frameOf s.reg.tx[n] } }) ∧
  (∀ (row : Fin 8) (v : Byte) (s : State), bit v abatBit = false → modeField v = modeLoopback →
    s.mode ≠ modeLoopback → s.mode ≠ modeSleep →
    ∃ t u bitmap, t = update (canctrlAddress row) v s ∧
      bitmap = (if s.txreq 0 then 1#3 else 0#3) ||| (if s.txreq 1 then 2#3 else 0#3) ∧
      u = (sendOrder (fun n => txpField s.reg.tx[n].ctrl) bitmap).foldl (loopedBack fun n => frameOf s.reg.tx[n])
        (s.setCanstat (setModeField s.reg.canstat modeLoopback)) ∧
      (∀ n : Fin Config.nTx, t.reg.tx[n] =
        if bitmap.getLsbD n.val then
          { s.reg.tx[n] with ctrl := setBit (setBit s.reg.tx[n].ctrl abtfBit false) txreqBit false }
        else s.reg.tx[n]) ∧
      t = { u with reg := { u.reg with tx := t.reg.tx, canctrl := v } })

/-! ### Reset -/

/-- R70, R370 to R373: full reset is idempotent, `DeviceReset` gives one fixed state from any state, and that state holds
the values of R70 at every address, register and session field (D1, D2, D28: log 6, 7, 21). -/
def Obligations.ResetIsOneState : Prop :=
  (∀ s : State, fullReset (fullReset s) = fullReset s) ∧
  (∀ (s : State) (rest : List Event), s.pending = .deviceReset :: rest →
    step s = .next { State.reset with pending := rest, out := Output.empty }) ∧
  (∀ a : Addr, State.reset.raw a =
    if a.toNat % 16 = 14 then 0x80 else if a.toNat % 16 = 15 then 0x87 else 0x00) ∧
  (State.reset.mode = modeConfig ∧ State.reset.reqMode = modeConfig ∧ State.reset.abat = false ∧
    State.reset.irqPrev = 0x00 ∧ State.reset.pin = { irq := false, rx0bf := true, rx1bf := true } ∧
    State.reset.cs = .deasserted ∧
    State.reset.spi.state = .awaitingInstruction ∧ State.reset.spi.addrThenWrite = false ∧
    State.reset.spi.address = 0 ∧ State.reset.spi.rxMemo = none ∧ State.reset.spi.modifyMask = 0x00)

/-! ### Invariants and whole-machine rules -/

/-- R46, R47, R48 with R236, R290, R311, R313: every step keeps the modes legal, a sleeping chip's request LISTEN, the
interrupt code, `irq_prev` and IRQ pin in step with the effective set, and the request bits consistent. -/
def Obligations.LegalKeptByStep : Prop :=
  ∀ s t : State, Legal s → step s = .next t → Legal t

/-- R21, R28, R34, R37, R234, R338: every step keeps the reserved and constant bits 0, and BUKT1 equal to BUKT.
Which bits these are rests on the model's choices of the bit places: D3 for canstat (log 8), D7 to D10 for the TX, RX and
bfpctrl bytes and sidl (log 10), D6 for eflg (log 10), D19 for the RX layout (log 16), and on D32 for tec and rec (log 9). -/
def Obligations.ReservedBitsKeptByStep : Prop :=
  (∀ s t : State, ReservedBitsClear s → step s = .next t → ReservedBitsClear t) ∧
  (∀ s t : State, BuktMirrored s → step s = .next t → BuktMirrored t)

/-- The invariants hold of the state after reset (R70). -/
def Obligations.InvariantsHoldAtReset : Prop :=
  Legal State.reset ∧ ReservedBitsClear State.reset ∧ BuktMirrored State.reset

/-- R39, R40, R389: outside CONFIG mode what cnf1, cnf2, cnf3 and txrtsctrl hold cannot be observed: no output byte, no
frame, no pin and no other state depends on it. -/
def Obligations.StorageBitsNonInterference : Prop :=
  ∀ s : State, s.mode ≠ modeConfig →
    mapOutcome State.withoutTimingStorage (step s) =
      mapOutcome State.withoutTimingStorage (step s.withoutTimingStorage)

/-- R345, R381: the RXnBF pins change only in a step that changes the effective interrupt set or resets the chip, or in
a write to bfpctrl: otherwise they hold a level that may be stale.
That a pin keeps its level while a raw flag changes is the model's choice D23 (log 19, unsafe). -/
def Obligations.BufferFullPinsHoldTheirLevel : Prop :=
  ∀ s t : State, InterruptsCurrent s → step s = .next t →
    t.pin.rx0bf ≠ s.pin.rx0bf ∨ t.pin.rx1bf ≠ s.pin.rx1bf →
    t.irqPrev ≠ s.irqPrev ∨
    (∃ rest, s.pending = .deviceReset :: rest) ∨
    (∃ rest, ClocksByte s .awaitingInstruction 0xC0 rest) ∨
    (∃ b rest, (ClocksByte s .writingData b rest ∨ ClocksByte s .modifyingData b rest) ∧ s.spi.address = 0x0C)

/-- R157, over two whole transactions: a WRITE of `v` to a register without side effect, then a READ there, answers
`(old & ~M) | (V & M)` if the register can be read in this mode, and 0x00 if it cannot (D11, D41: log 11, log 24). -/
def Obligations.WriteThenReadTransaction : Prop :=
  ∀ (s : State) (a : Addr) (v x : Byte), s.cs = .deasserted → plainSlot (resolve a).slot = true →
    s.pending = [.csAssert, .spiByte 0x02, .spiByte (a.setWidth 8), .spiByte v, .csDeassert,
      .csAssert, .spiByte 0x03, .spiByte (a.setWidth 8), .spiByte x, .csDeassert] →
    ∃ t, Host.Core.run Sys2Proof.core 9 s = .next t ∧ t.pending = [.csDeassert] ∧
      t.out.miso = some (if (resolve a).configOnlyRead = true ∧ s.mode ≠ modeConfig then 0x00
        else (s.raw a &&& ~~~(resolve a).writeMask) ||| (v &&& (resolve a).writeMask)) ∧
      t.reg = (maskedStore a v s).reg ∧ t.irqPrev = s.irqPrev ∧ t.pin = s.pin
end

