-- ==== Sys2Proof/Laws/Bits.lean ====
section
/-! SUPPORT. What the bit and field helpers of Machine/Operands.lean do, bit by bit. -/

namespace Sys2Proof.Machine

open Sys2Proof

theorem bit_setBit (v : Byte) (i j : Nat) (b : Bool) (hi : i < 8) :
    bit (setBit v i b) j = if j = i then b else bit v j := by
  have h1 : (1#8 <<< i).getLsbD j = decide (j = i) := by
    by_cases h : j = i
    · subst h
      simp [hi]
    · have : (1#8 <<< i).getLsbD j = (decide (j < 8) && !decide (j < i) && (1#8).getLsbD (j - i)) := by simp
      rw [this]
      by_cases hlt : j < i
      · simp [hlt, h]
      · have h2 : j - i ≠ 0 := by omega
        simp [BitVec.getLsbD_one, h, h2]
  unfold bit setBit
  by_cases hj : j < 8
  · by_cases h : j = i
    · subst h
      cases b <;> simp_all
    · rw [if_neg h]
      simp only [h, decide_false] at h1
      cases b
      · simp only [Bool.false_eq_true, if_false, BitVec.getLsbD_and, BitVec.getLsbD_not, h1, hj]
        simp
      · simp only [if_true, BitVec.getLsbD_or, h1, Bool.or_false]
  · have hne : j ≠ i := by omega
    have h3 : ∀ w : Byte, w.getLsbD j = false := fun w => BitVec.getLsbD_of_ge w j (by omega)
    simp [h3, hne]

@[simp] theorem bit_setBit_same (v : Byte) (i : Nat) (b : Bool) (hi : i < 8) : bit (setBit v i b) i = b := by
  simp [bit_setBit _ _ _ _ hi]

theorem bit_setBit_ne (v : Byte) {i j : Nat} (b : Bool) (hi : i < 8) (h : j ≠ i) :
    bit (setBit v i b) j = bit v j := by
  simp [bit_setBit _ _ _ _ hi, h]

/-- Two bytes are equal when their eight bits are. -/
theorem byte_ext {v w : Byte} (h : ∀ i, i < 8 → bit v i = bit w i) : v = w :=
  BitVec.eq_of_getLsbD_eq fun i hi => h i hi

/-- Writing the value a bit already has changes nothing. -/
theorem setBit_self (v : Byte) (i : Nat) (b : Bool) (hi : i < 8) (h : bit v i = b) : setBit v i b = v := by
  apply byte_ext
  intro j _
  rw [bit_setBit _ _ _ _ hi]
  split
  · subst_vars
    rfl
  · rfl

/-- Writing two different bits commutes. -/
theorem setBit_comm (v : Byte) {i j : Nat} (a b : Bool) (hi : i < 8) (hj : j < 8) (h : i ≠ j) :
    setBit (setBit v i a) j b = setBit (setBit v j b) i a := by
  apply byte_ext
  intro k _
  simp only [bit_setBit _ _ _ _ hi, bit_setBit _ _ _ _ hj]
  split <;> split <;> first | rfl | omega

/-- The last write of a bit wins. -/
theorem setBit_setBit (v : Byte) (i : Nat) (a b : Bool) (hi : i < 8) : setBit (setBit v i a) i b = setBit v i b := by
  apply byte_ext
  intro k _
  simp only [bit_setBit _ _ _ _ hi]
  split <;> rfl

theorem bit_mergeMasked (old v m : Byte) (j : Nat) :
    bit (mergeMasked old v m) j = if bit m j then bit v j else bit old j := by
  unfold bit mergeMasked
  by_cases hj : j < 8
  · simp only [BitVec.getLsbD_or, BitVec.getLsbD_and, BitVec.getLsbD_not, hj]
    cases m.getLsbD j <;> simp
  · have h3 : ∀ w : Byte, w.getLsbD j = false := fun w => BitVec.getLsbD_of_ge w j (by omega)
    simp [h3]

theorem mergeMasked_zero (old v : Byte) : mergeMasked old v 0#8 = old := by
  apply byte_ext
  intro j _
  have h : bit 0#8 j = false := by simp [bit]
  rw [bit_mergeMasked, h]
  rfl

theorem mergeMasked_ones (old v : Byte) : mergeMasked old v 0xFF#8 = v := by
  apply byte_ext
  intro j hj
  have : bit 0xFF#8 j = true := by
    unfold bit
    interval_cases j <;> rfl
  rw [bit_mergeMasked, this]
  rfl

@[simp] theorem modeField_setModeField (v : Byte) (m : BitVec 3) : modeField (setModeField v m) = m := by
  unfold modeField setModeField
  ext i hi
  interval_cases i <;> simp

theorem bit_setModeField (v : Byte) (m : BitVec 3) (j : Nat) (h : j < 5) : bit (setModeField v m) j = bit v j := by
  unfold bit setModeField
  interval_cases j <;> simp

@[simp] theorem icodField_setModeField (v : Byte) (m : BitVec 3) : icodField (setModeField v m) = icodField v := by
  unfold icodField setModeField
  ext i hi
  interval_cases i <;> simp

@[simp] theorem icodField_setIcodField (v : Byte) (c : BitVec 3) : icodField (setIcodField v c) = c := by
  unfold icodField setIcodField
  ext i hi
  interval_cases i <;> simp

@[simp] theorem modeField_setIcodField (v : Byte) (c : BitVec 3) : modeField (setIcodField v c) = modeField v := by
  unfold modeField setIcodField
  ext i hi
  interval_cases i <;> simp

/-- Bits 0 and 4 to 7 of canstat are not part of the interrupt code. -/
theorem bit_setIcodField (v : Byte) (c : BitVec 3) (j : Nat) (h : j = 0 ∨ 4 ≤ j) :
    bit (setIcodField v c) j = bit v j := by
  unfold bit setIcodField
  by_cases hj : j < 8
  · interval_cases j <;> simp_all
  · rw [BitVec.getLsbD_of_ge _ _ (by omega), BitVec.getLsbD_of_ge _ _ (by omega)]

/-- A canstat is its mode, its interrupt code and its two constant bits. -/
theorem canstat_ext {v w : Byte} (hm : modeField v = modeField w) (hc : icodField v = icodField w)
    (h0 : bit v 0 = bit w 0) (h4 : bit v 4 = bit w 4) : v = w := by
  apply byte_ext
  intro i hi
  have em : ∀ k, k < 3 → v.getLsbD (5 + k) = w.getLsbD (5 + k) := by
    intro k hk
    have := congrArg (fun x : BitVec 3 => x.getLsbD k) hm
    simpa [modeField, hk] using this
  have ec : ∀ k, k < 3 → v.getLsbD (1 + k) = w.getLsbD (1 + k) := by
    intro k hk
    have := congrArg (fun x : BitVec 3 => x.getLsbD k) hc
    simpa [icodField, hk] using this
  unfold bit at *
  interval_cases i
  · exact h0
  · exact ec 0 (by omega)
  · exact ec 1 (by omega)
  · exact ec 2 (by omega)
  · exact h4
  · exact em 0 (by omega)
  · exact em 1 (by omega)
  · exact em 2 (by omega)

theorem txpField_setBit (v : Byte) (i : Nat) (b : Bool) (hi : i < 8) (h : 2 ≤ i) :
    txpField (setBit v i b) = txpField v := by
  unfold txpField
  ext k hk
  have h1 : k ≠ i := by omega
  have := bit_setBit v i k b hi
  simp only [h1, if_false] at this
  unfold bit at this
  simpa using this

/-- The filter equation is the masked comparison `(mv & (fv ^ frv)) = 0` (R259, "equivalent form"). -/
theorem filter_equation (mv x : Word) : (~~~mv ||| ~~~x) = 0xFFFFFFFF#32 ↔ mv &&& x = 0 := by
  have h : (~~~mv ||| ~~~x) = ~~~(mv &&& x) := by
    ext i hi
    simp
  have h2 : (0xFFFFFFFF#32) = ~~~(0#32) := by decide
  rw [h, h2]
  constructor
  · intro e
    have := congrArg (fun y => ~~~y) e
    simpa using this
  · intro e
    rw [e]
    rfl

end Sys2Proof.Machine
end

