-- ==== Sys2Proof/Laws/State.lean ====
section
/-! SUPPORT. One lemma per field per named update of State (Machine/Ops.lean), true by rfl, so that no later proof
unfolds a record update; and the same for `full_reset`. -/

namespace Sys2Proof.Machine

open Sys2Proof

@[simp] theorem State.setCanstat_reg_canstat (s : State) (v : Byte) : (s.setCanstat v).reg.canstat = v := rfl
@[simp] theorem State.setCanstat_reg_canctrl (s : State) (v : Byte) : (s.setCanstat v).reg.canctrl = s.reg.canctrl := rfl
@[simp] theorem State.setCanstat_reg_bfpctrl (s : State) (v : Byte) : (s.setCanstat v).reg.bfpctrl = s.reg.bfpctrl := rfl
@[simp] theorem State.setCanstat_reg_txrtsctrl (s : State) (v : Byte) : (s.setCanstat v).reg.txrtsctrl = s.reg.txrtsctrl := rfl
@[simp] theorem State.setCanstat_reg_tecReg (s : State) (v : Byte) : (s.setCanstat v).reg.tecReg = s.reg.tecReg := rfl
@[simp] theorem State.setCanstat_reg_recReg (s : State) (v : Byte) : (s.setCanstat v).reg.recReg = s.reg.recReg := rfl
@[simp] theorem State.setCanstat_reg_cnf1 (s : State) (v : Byte) : (s.setCanstat v).reg.cnf1 = s.reg.cnf1 := rfl
@[simp] theorem State.setCanstat_reg_cnf2 (s : State) (v : Byte) : (s.setCanstat v).reg.cnf2 = s.reg.cnf2 := rfl
@[simp] theorem State.setCanstat_reg_cnf3 (s : State) (v : Byte) : (s.setCanstat v).reg.cnf3 = s.reg.cnf3 := rfl
@[simp] theorem State.setCanstat_reg_caninte (s : State) (v : Byte) : (s.setCanstat v).reg.caninte = s.reg.caninte := rfl
@[simp] theorem State.setCanstat_reg_canintf (s : State) (v : Byte) : (s.setCanstat v).reg.canintf = s.reg.canintf := rfl
@[simp] theorem State.setCanstat_reg_eflg (s : State) (v : Byte) : (s.setCanstat v).reg.eflg = s.reg.eflg := rfl
@[simp] theorem State.setCanstat_reg_tx (s : State) (v : Byte) : (s.setCanstat v).reg.tx = s.reg.tx := rfl
@[simp] theorem State.setCanstat_reg_rx (s : State) (v : Byte) : (s.setCanstat v).reg.rx = s.reg.rx := rfl
@[simp] theorem State.setCanstat_reg_filters (s : State) (v : Byte) : (s.setCanstat v).reg.filters = s.reg.filters := rfl
@[simp] theorem State.setCanstat_reg_masks (s : State) (v : Byte) : (s.setCanstat v).reg.masks = s.reg.masks := rfl
@[simp] theorem State.setCanstat_spi (s : State) (v : Byte) : (s.setCanstat v).spi = s.spi := rfl
@[simp] theorem State.setCanstat_cs (s : State) (v : Byte) : (s.setCanstat v).cs = s.cs := rfl
@[simp] theorem State.setCanstat_irqPrev (s : State) (v : Byte) : (s.setCanstat v).irqPrev = s.irqPrev := rfl
@[simp] theorem State.setCanstat_pin (s : State) (v : Byte) : (s.setCanstat v).pin = s.pin := rfl
@[simp] theorem State.setCanstat_pending (s : State) (v : Byte) : (s.setCanstat v).pending = s.pending := rfl
@[simp] theorem State.setCanstat_out (s : State) (v : Byte) : (s.setCanstat v).out = s.out := rfl
@[simp] theorem State.setCanstat_reqMode (s : State) (v : Byte) : (s.setCanstat v).reqMode = s.reqMode := rfl
@[simp] theorem State.setCanstat_abat (s : State) (v : Byte) : (s.setCanstat v).abat = s.abat := rfl

@[simp] theorem State.setCanctrl_reg_canstat (s : State) (v : Byte) : (s.setCanctrl v).reg.canstat = s.reg.canstat := rfl
@[simp] theorem State.setCanctrl_reg_canctrl (s : State) (v : Byte) : (s.setCanctrl v).reg.canctrl = v := rfl
@[simp] theorem State.setCanctrl_reg_bfpctrl (s : State) (v : Byte) : (s.setCanctrl v).reg.bfpctrl = s.reg.bfpctrl := rfl
@[simp] theorem State.setCanctrl_reg_txrtsctrl (s : State) (v : Byte) : (s.setCanctrl v).reg.txrtsctrl = s.reg.txrtsctrl := rfl
@[simp] theorem State.setCanctrl_reg_tecReg (s : State) (v : Byte) : (s.setCanctrl v).reg.tecReg = s.reg.tecReg := rfl
@[simp] theorem State.setCanctrl_reg_recReg (s : State) (v : Byte) : (s.setCanctrl v).reg.recReg = s.reg.recReg := rfl
@[simp] theorem State.setCanctrl_reg_cnf1 (s : State) (v : Byte) : (s.setCanctrl v).reg.cnf1 = s.reg.cnf1 := rfl
@[simp] theorem State.setCanctrl_reg_cnf2 (s : State) (v : Byte) : (s.setCanctrl v).reg.cnf2 = s.reg.cnf2 := rfl
@[simp] theorem State.setCanctrl_reg_cnf3 (s : State) (v : Byte) : (s.setCanctrl v).reg.cnf3 = s.reg.cnf3 := rfl
@[simp] theorem State.setCanctrl_reg_caninte (s : State) (v : Byte) : (s.setCanctrl v).reg.caninte = s.reg.caninte := rfl
@[simp] theorem State.setCanctrl_reg_canintf (s : State) (v : Byte) : (s.setCanctrl v).reg.canintf = s.reg.canintf := rfl
@[simp] theorem State.setCanctrl_reg_eflg (s : State) (v : Byte) : (s.setCanctrl v).reg.eflg = s.reg.eflg := rfl
@[simp] theorem State.setCanctrl_reg_tx (s : State) (v : Byte) : (s.setCanctrl v).reg.tx = s.reg.tx := rfl
@[simp] theorem State.setCanctrl_reg_rx (s : State) (v : Byte) : (s.setCanctrl v).reg.rx = s.reg.rx := rfl
@[simp] theorem State.setCanctrl_reg_filters (s : State) (v : Byte) : (s.setCanctrl v).reg.filters = s.reg.filters := rfl
@[simp] theorem State.setCanctrl_reg_masks (s : State) (v : Byte) : (s.setCanctrl v).reg.masks = s.reg.masks := rfl
@[simp] theorem State.setCanctrl_spi (s : State) (v : Byte) : (s.setCanctrl v).spi = s.spi := rfl
@[simp] theorem State.setCanctrl_cs (s : State) (v : Byte) : (s.setCanctrl v).cs = s.cs := rfl
@[simp] theorem State.setCanctrl_irqPrev (s : State) (v : Byte) : (s.setCanctrl v).irqPrev = s.irqPrev := rfl
@[simp] theorem State.setCanctrl_pin (s : State) (v : Byte) : (s.setCanctrl v).pin = s.pin := rfl
@[simp] theorem State.setCanctrl_pending (s : State) (v : Byte) : (s.setCanctrl v).pending = s.pending := rfl
@[simp] theorem State.setCanctrl_out (s : State) (v : Byte) : (s.setCanctrl v).out = s.out := rfl
@[simp] theorem State.setCanctrl_mode (s : State) (v : Byte) : (s.setCanctrl v).mode = s.mode := rfl

@[simp] theorem State.setCanintf_reg_canstat (s : State) (v : Byte) : (s.setCanintf v).reg.canstat = s.reg.canstat := rfl
@[simp] theorem State.setCanintf_reg_canctrl (s : State) (v : Byte) : (s.setCanintf v).reg.canctrl = s.reg.canctrl := rfl
@[simp] theorem State.setCanintf_reg_bfpctrl (s : State) (v : Byte) : (s.setCanintf v).reg.bfpctrl = s.reg.bfpctrl := rfl
@[simp] theorem State.setCanintf_reg_txrtsctrl (s : State) (v : Byte) : (s.setCanintf v).reg.txrtsctrl = s.reg.txrtsctrl := rfl
@[simp] theorem State.setCanintf_reg_tecReg (s : State) (v : Byte) : (s.setCanintf v).reg.tecReg = s.reg.tecReg := rfl
@[simp] theorem State.setCanintf_reg_recReg (s : State) (v : Byte) : (s.setCanintf v).reg.recReg = s.reg.recReg := rfl
@[simp] theorem State.setCanintf_reg_cnf1 (s : State) (v : Byte) : (s.setCanintf v).reg.cnf1 = s.reg.cnf1 := rfl
@[simp] theorem State.setCanintf_reg_cnf2 (s : State) (v : Byte) : (s.setCanintf v).reg.cnf2 = s.reg.cnf2 := rfl
@[simp] theorem State.setCanintf_reg_cnf3 (s : State) (v : Byte) : (s.setCanintf v).reg.cnf3 = s.reg.cnf3 := rfl
@[simp] theorem State.setCanintf_reg_caninte (s : State) (v : Byte) : (s.setCanintf v).reg.caninte = s.reg.caninte := rfl
@[simp] theorem State.setCanintf_reg_canintf (s : State) (v : Byte) : (s.setCanintf v).reg.canintf = v := rfl
@[simp] theorem State.setCanintf_reg_eflg (s : State) (v : Byte) : (s.setCanintf v).reg.eflg = s.reg.eflg := rfl
@[simp] theorem State.setCanintf_reg_tx (s : State) (v : Byte) : (s.setCanintf v).reg.tx = s.reg.tx := rfl
@[simp] theorem State.setCanintf_reg_rx (s : State) (v : Byte) : (s.setCanintf v).reg.rx = s.reg.rx := rfl
@[simp] theorem State.setCanintf_reg_filters (s : State) (v : Byte) : (s.setCanintf v).reg.filters = s.reg.filters := rfl
@[simp] theorem State.setCanintf_reg_masks (s : State) (v : Byte) : (s.setCanintf v).reg.masks = s.reg.masks := rfl
@[simp] theorem State.setCanintf_spi (s : State) (v : Byte) : (s.setCanintf v).spi = s.spi := rfl
@[simp] theorem State.setCanintf_cs (s : State) (v : Byte) : (s.setCanintf v).cs = s.cs := rfl
@[simp] theorem State.setCanintf_irqPrev (s : State) (v : Byte) : (s.setCanintf v).irqPrev = s.irqPrev := rfl
@[simp] theorem State.setCanintf_pin (s : State) (v : Byte) : (s.setCanintf v).pin = s.pin := rfl
@[simp] theorem State.setCanintf_pending (s : State) (v : Byte) : (s.setCanintf v).pending = s.pending := rfl
@[simp] theorem State.setCanintf_out (s : State) (v : Byte) : (s.setCanintf v).out = s.out := rfl
@[simp] theorem State.setCanintf_mode (s : State) (v : Byte) : (s.setCanintf v).mode = s.mode := rfl
@[simp] theorem State.setCanintf_reqMode (s : State) (v : Byte) : (s.setCanintf v).reqMode = s.reqMode := rfl
@[simp] theorem State.setCanintf_abat (s : State) (v : Byte) : (s.setCanintf v).abat = s.abat := rfl

@[simp] theorem State.setEflg_reg_canstat (s : State) (v : Byte) : (s.setEflg v).reg.canstat = s.reg.canstat := rfl
@[simp] theorem State.setEflg_reg_canctrl (s : State) (v : Byte) : (s.setEflg v).reg.canctrl = s.reg.canctrl := rfl
@[simp] theorem State.setEflg_reg_bfpctrl (s : State) (v : Byte) : (s.setEflg v).reg.bfpctrl = s.reg.bfpctrl := rfl
@[simp] theorem State.setEflg_reg_txrtsctrl (s : State) (v : Byte) : (s.setEflg v).reg.txrtsctrl = s.reg.txrtsctrl := rfl
@[simp] theorem State.setEflg_reg_tecReg (s : State) (v : Byte) : (s.setEflg v).reg.tecReg = s.reg.tecReg := rfl
@[simp] theorem State.setEflg_reg_recReg (s : State) (v : Byte) : (s.setEflg v).reg.recReg = s.reg.recReg := rfl
@[simp] theorem State.setEflg_reg_cnf1 (s : State) (v : Byte) : (s.setEflg v).reg.cnf1 = s.reg.cnf1 := rfl
@[simp] theorem State.setEflg_reg_cnf2 (s : State) (v : Byte) : (s.setEflg v).reg.cnf2 = s.reg.cnf2 := rfl
@[simp] theorem State.setEflg_reg_cnf3 (s : State) (v : Byte) : (s.setEflg v).reg.cnf3 = s.reg.cnf3 := rfl
@[simp] theorem State.setEflg_reg_caninte (s : State) (v : Byte) : (s.setEflg v).reg.caninte = s.reg.caninte := rfl
@[simp] theorem State.setEflg_reg_canintf (s : State) (v : Byte) : (s.setEflg v).reg.canintf = s.reg.canintf := rfl
@[simp] theorem State.setEflg_reg_eflg (s : State) (v : Byte) : (s.setEflg v).reg.eflg = v := rfl
@[simp] theorem State.setEflg_reg_tx (s : State) (v : Byte) : (s.setEflg v).reg.tx = s.reg.tx := rfl
@[simp] theorem State.setEflg_reg_rx (s : State) (v : Byte) : (s.setEflg v).reg.rx = s.reg.rx := rfl
@[simp] theorem State.setEflg_reg_filters (s : State) (v : Byte) : (s.setEflg v).reg.filters = s.reg.filters := rfl
@[simp] theorem State.setEflg_reg_masks (s : State) (v : Byte) : (s.setEflg v).reg.masks = s.reg.masks := rfl
@[simp] theorem State.setEflg_spi (s : State) (v : Byte) : (s.setEflg v).spi = s.spi := rfl
@[simp] theorem State.setEflg_cs (s : State) (v : Byte) : (s.setEflg v).cs = s.cs := rfl
@[simp] theorem State.setEflg_irqPrev (s : State) (v : Byte) : (s.setEflg v).irqPrev = s.irqPrev := rfl
@[simp] theorem State.setEflg_pin (s : State) (v : Byte) : (s.setEflg v).pin = s.pin := rfl
@[simp] theorem State.setEflg_pending (s : State) (v : Byte) : (s.setEflg v).pending = s.pending := rfl
@[simp] theorem State.setEflg_out (s : State) (v : Byte) : (s.setEflg v).out = s.out := rfl
@[simp] theorem State.setEflg_mode (s : State) (v : Byte) : (s.setEflg v).mode = s.mode := rfl
@[simp] theorem State.setEflg_reqMode (s : State) (v : Byte) : (s.setEflg v).reqMode = s.reqMode := rfl
@[simp] theorem State.setEflg_abat (s : State) (v : Byte) : (s.setEflg v).abat = s.abat := rfl

@[simp] theorem State.setTx_reg_canstat (s : State) (n : Fin Config.nTx) (t : Buffer) : (s.setTx n t).reg.canstat = s.reg.canstat := rfl
@[simp] theorem State.setTx_reg_canctrl (s : State) (n : Fin Config.nTx) (t : Buffer) : (s.setTx n t).reg.canctrl = s.reg.canctrl := rfl
@[simp] theorem State.setTx_reg_bfpctrl (s : State) (n : Fin Config.nTx) (t : Buffer) : (s.setTx n t).reg.bfpctrl = s.reg.bfpctrl := rfl
@[simp] theorem State.setTx_reg_txrtsctrl (s : State) (n : Fin Config.nTx) (t : Buffer) : (s.setTx n t).reg.txrtsctrl = s.reg.txrtsctrl := rfl
@[simp] theorem State.setTx_reg_tecReg (s : State) (n : Fin Config.nTx) (t : Buffer) : (s.setTx n t).reg.tecReg = s.reg.tecReg := rfl
@[simp] theorem State.setTx_reg_recReg (s : State) (n : Fin Config.nTx) (t : Buffer) : (s.setTx n t).reg.recReg = s.reg.recReg := rfl
@[simp] theorem State.setTx_reg_cnf1 (s : State) (n : Fin Config.nTx) (t : Buffer) : (s.setTx n t).reg.cnf1 = s.reg.cnf1 := rfl
@[simp] theorem State.setTx_reg_cnf2 (s : State) (n : Fin Config.nTx) (t : Buffer) : (s.setTx n t).reg.cnf2 = s.reg.cnf2 := rfl
@[simp] theorem State.setTx_reg_cnf3 (s : State) (n : Fin Config.nTx) (t : Buffer) : (s.setTx n t).reg.cnf3 = s.reg.cnf3 := rfl
@[simp] theorem State.setTx_reg_caninte (s : State) (n : Fin Config.nTx) (t : Buffer) : (s.setTx n t).reg.caninte = s.reg.caninte := rfl
@[simp] theorem State.setTx_reg_canintf (s : State) (n : Fin Config.nTx) (t : Buffer) : (s.setTx n t).reg.canintf = s.reg.canintf := rfl
@[simp] theorem State.setTx_reg_eflg (s : State) (n : Fin Config.nTx) (t : Buffer) : (s.setTx n t).reg.eflg = s.reg.eflg := rfl
@[simp] theorem State.setTx_reg_tx (s : State) (n : Fin Config.nTx) (t : Buffer) : (s.setTx n t).reg.tx = s.reg.tx.set n t := rfl
@[simp] theorem State.setTx_reg_rx (s : State) (n : Fin Config.nTx) (t : Buffer) : (s.setTx n t).reg.rx = s.reg.rx := rfl
@[simp] theorem State.setTx_reg_filters (s : State) (n : Fin Config.nTx) (t : Buffer) : (s.setTx n t).reg.filters = s.reg.filters := rfl
@[simp] theorem State.setTx_reg_masks (s : State) (n : Fin Config.nTx) (t : Buffer) : (s.setTx n t).reg.masks = s.reg.masks := rfl
@[simp] theorem State.setTx_spi (s : State) (n : Fin Config.nTx) (t : Buffer) : (s.setTx n t).spi = s.spi := rfl
@[simp] theorem State.setTx_cs (s : State) (n : Fin Config.nTx) (t : Buffer) : (s.setTx n t).cs = s.cs := rfl
@[simp] theorem State.setTx_irqPrev (s : State) (n : Fin Config.nTx) (t : Buffer) : (s.setTx n t).irqPrev = s.irqPrev := rfl
@[simp] theorem State.setTx_pin (s : State) (n : Fin Config.nTx) (t : Buffer) : (s.setTx n t).pin = s.pin := rfl
@[simp] theorem State.setTx_pending (s : State) (n : Fin Config.nTx) (t : Buffer) : (s.setTx n t).pending = s.pending := rfl
@[simp] theorem State.setTx_out (s : State) (n : Fin Config.nTx) (t : Buffer) : (s.setTx n t).out = s.out := rfl
@[simp] theorem State.setTx_mode (s : State) (n : Fin Config.nTx) (t : Buffer) : (s.setTx n t).mode = s.mode := rfl
@[simp] theorem State.setTx_reqMode (s : State) (n : Fin Config.nTx) (t : Buffer) : (s.setTx n t).reqMode = s.reqMode := rfl
@[simp] theorem State.setTx_abat (s : State) (n : Fin Config.nTx) (t : Buffer) : (s.setTx n t).abat = s.abat := rfl

@[simp] theorem State.setRx_reg_canstat (s : State) (n : Fin Config.nRx) (t : Buffer) : (s.setRx n t).reg.canstat = s.reg.canstat := rfl
@[simp] theorem State.setRx_reg_canctrl (s : State) (n : Fin Config.nRx) (t : Buffer) : (s.setRx n t).reg.canctrl = s.reg.canctrl := rfl
@[simp] theorem State.setRx_reg_bfpctrl (s : State) (n : Fin Config.nRx) (t : Buffer) : (s.setRx n t).reg.bfpctrl = s.reg.bfpctrl := rfl
@[simp] theorem State.setRx_reg_txrtsctrl (s : State) (n : Fin Config.nRx) (t : Buffer) : (s.setRx n t).reg.txrtsctrl = s.reg.txrtsctrl := rfl
@[simp] theorem State.setRx_reg_tecReg (s : State) (n : Fin Config.nRx) (t : Buffer) : (s.setRx n t).reg.tecReg = s.reg.tecReg := rfl
@[simp] theorem State.setRx_reg_recReg (s : State) (n : Fin Config.nRx) (t : Buffer) : (s.setRx n t).reg.recReg = s.reg.recReg := rfl
@[simp] theorem State.setRx_reg_cnf1 (s : State) (n : Fin Config.nRx) (t : Buffer) : (s.setRx n t).reg.cnf1 = s.reg.cnf1 := rfl
@[simp] theorem State.setRx_reg_cnf2 (s : State) (n : Fin Config.nRx) (t : Buffer) : (s.setRx n t).reg.cnf2 = s.reg.cnf2 := rfl
@[simp] theorem State.setRx_reg_cnf3 (s : State) (n : Fin Config.nRx) (t : Buffer) : (s.setRx n t).reg.cnf3 = s.reg.cnf3 := rfl
@[simp] theorem State.setRx_reg_caninte (s : State) (n : Fin Config.nRx) (t : Buffer) : (s.setRx n t).reg.caninte = s.reg.caninte := rfl
@[simp] theorem State.setRx_reg_canintf (s : State) (n : Fin Config.nRx) (t : Buffer) : (s.setRx n t).reg.canintf = s.reg.canintf := rfl
@[simp] theorem State.setRx_reg_eflg (s : State) (n : Fin Config.nRx) (t : Buffer) : (s.setRx n t).reg.eflg = s.reg.eflg := rfl
@[simp] theorem State.setRx_reg_tx (s : State) (n : Fin Config.nRx) (t : Buffer) : (s.setRx n t).reg.tx = s.reg.tx := rfl
@[simp] theorem State.setRx_reg_rx (s : State) (n : Fin Config.nRx) (t : Buffer) : (s.setRx n t).reg.rx = s.reg.rx.set n t := rfl
@[simp] theorem State.setRx_reg_filters (s : State) (n : Fin Config.nRx) (t : Buffer) : (s.setRx n t).reg.filters = s.reg.filters := rfl
@[simp] theorem State.setRx_reg_masks (s : State) (n : Fin Config.nRx) (t : Buffer) : (s.setRx n t).reg.masks = s.reg.masks := rfl
@[simp] theorem State.setRx_spi (s : State) (n : Fin Config.nRx) (t : Buffer) : (s.setRx n t).spi = s.spi := rfl
@[simp] theorem State.setRx_cs (s : State) (n : Fin Config.nRx) (t : Buffer) : (s.setRx n t).cs = s.cs := rfl
@[simp] theorem State.setRx_irqPrev (s : State) (n : Fin Config.nRx) (t : Buffer) : (s.setRx n t).irqPrev = s.irqPrev := rfl
@[simp] theorem State.setRx_pin (s : State) (n : Fin Config.nRx) (t : Buffer) : (s.setRx n t).pin = s.pin := rfl
@[simp] theorem State.setRx_pending (s : State) (n : Fin Config.nRx) (t : Buffer) : (s.setRx n t).pending = s.pending := rfl
@[simp] theorem State.setRx_out (s : State) (n : Fin Config.nRx) (t : Buffer) : (s.setRx n t).out = s.out := rfl
@[simp] theorem State.setRx_mode (s : State) (n : Fin Config.nRx) (t : Buffer) : (s.setRx n t).mode = s.mode := rfl
@[simp] theorem State.setRx_reqMode (s : State) (n : Fin Config.nRx) (t : Buffer) : (s.setRx n t).reqMode = s.reqMode := rfl
@[simp] theorem State.setRx_abat (s : State) (n : Fin Config.nRx) (t : Buffer) : (s.setRx n t).abat = s.abat := rfl

@[simp] theorem State.setSlot_reg (s : State) (sl : Slot) (v : Byte) : (s.setSlot sl v).reg = s.reg.set sl v := rfl
@[simp] theorem State.setSlot_spi (s : State) (sl : Slot) (v : Byte) : (s.setSlot sl v).spi = s.spi := rfl
@[simp] theorem State.setSlot_cs (s : State) (sl : Slot) (v : Byte) : (s.setSlot sl v).cs = s.cs := rfl
@[simp] theorem State.setSlot_irqPrev (s : State) (sl : Slot) (v : Byte) : (s.setSlot sl v).irqPrev = s.irqPrev := rfl
@[simp] theorem State.setSlot_pin (s : State) (sl : Slot) (v : Byte) : (s.setSlot sl v).pin = s.pin := rfl
@[simp] theorem State.setSlot_pending (s : State) (sl : Slot) (v : Byte) : (s.setSlot sl v).pending = s.pending := rfl
@[simp] theorem State.setSlot_out (s : State) (sl : Slot) (v : Byte) : (s.setSlot sl v).out = s.out := rfl

@[simp] theorem State.setIrqPrev_reg (s : State) (v : Byte) : (s.setIrqPrev v).reg = s.reg := rfl
@[simp] theorem State.setIrqPrev_spi (s : State) (v : Byte) : (s.setIrqPrev v).spi = s.spi := rfl
@[simp] theorem State.setIrqPrev_cs (s : State) (v : Byte) : (s.setIrqPrev v).cs = s.cs := rfl
@[simp] theorem State.setIrqPrev_irqPrev (s : State) (v : Byte) : (s.setIrqPrev v).irqPrev = v := rfl
@[simp] theorem State.setIrqPrev_pin (s : State) (v : Byte) : (s.setIrqPrev v).pin = s.pin := rfl
@[simp] theorem State.setIrqPrev_pending (s : State) (v : Byte) : (s.setIrqPrev v).pending = s.pending := rfl
@[simp] theorem State.setIrqPrev_out (s : State) (v : Byte) : (s.setIrqPrev v).out = s.out := rfl
@[simp] theorem State.setIrqPrev_mode (s : State) (v : Byte) : (s.setIrqPrev v).mode = s.mode := rfl
@[simp] theorem State.setIrqPrev_reqMode (s : State) (v : Byte) : (s.setIrqPrev v).reqMode = s.reqMode := rfl
@[simp] theorem State.setIrqPrev_abat (s : State) (v : Byte) : (s.setIrqPrev v).abat = s.abat := rfl

@[simp] theorem State.setIrqPin_reg (s : State) (b : Bool) : (s.setIrqPin b).reg = s.reg := rfl
@[simp] theorem State.setIrqPin_spi (s : State) (b : Bool) : (s.setIrqPin b).spi = s.spi := rfl
@[simp] theorem State.setIrqPin_cs (s : State) (b : Bool) : (s.setIrqPin b).cs = s.cs := rfl
@[simp] theorem State.setIrqPin_irqPrev (s : State) (b : Bool) : (s.setIrqPin b).irqPrev = s.irqPrev := rfl
@[simp] theorem State.setIrqPin_pin_irq (s : State) (b : Bool) : (s.setIrqPin b).pin.irq = b := rfl
@[simp] theorem State.setIrqPin_pin_rx0bf (s : State) (b : Bool) : (s.setIrqPin b).pin.rx0bf = s.pin.rx0bf := rfl
@[simp] theorem State.setIrqPin_pin_rx1bf (s : State) (b : Bool) : (s.setIrqPin b).pin.rx1bf = s.pin.rx1bf := rfl
@[simp] theorem State.setIrqPin_pending (s : State) (b : Bool) : (s.setIrqPin b).pending = s.pending := rfl
@[simp] theorem State.setIrqPin_out (s : State) (b : Bool) : (s.setIrqPin b).out = s.out := rfl
@[simp] theorem State.setIrqPin_mode (s : State) (b : Bool) : (s.setIrqPin b).mode = s.mode := rfl
@[simp] theorem State.setIrqPin_reqMode (s : State) (b : Bool) : (s.setIrqPin b).reqMode = s.reqMode := rfl
@[simp] theorem State.setIrqPin_abat (s : State) (b : Bool) : (s.setIrqPin b).abat = s.abat := rfl

@[simp] theorem State.setRxnbf_reg (s : State) (i : Fin Config.nRx) (b : Bool) : (s.setRxnbf i b).reg = s.reg := rfl
@[simp] theorem State.setRxnbf_spi (s : State) (i : Fin Config.nRx) (b : Bool) : (s.setRxnbf i b).spi = s.spi := rfl
@[simp] theorem State.setRxnbf_cs (s : State) (i : Fin Config.nRx) (b : Bool) : (s.setRxnbf i b).cs = s.cs := rfl
@[simp] theorem State.setRxnbf_irqPrev (s : State) (i : Fin Config.nRx) (b : Bool) : (s.setRxnbf i b).irqPrev = s.irqPrev := rfl
@[simp] theorem State.setRxnbf_pin (s : State) (i : Fin Config.nRx) (b : Bool) : (s.setRxnbf i b).pin = if i = 0 then { s.pin with rx0bf := b } else { s.pin with rx1bf := b } := rfl
@[simp] theorem State.setRxnbf_pending (s : State) (i : Fin Config.nRx) (b : Bool) : (s.setRxnbf i b).pending = s.pending := rfl
@[simp] theorem State.setRxnbf_out (s : State) (i : Fin Config.nRx) (b : Bool) : (s.setRxnbf i b).out = s.out := rfl
@[simp] theorem State.setRxnbf_mode (s : State) (i : Fin Config.nRx) (b : Bool) : (s.setRxnbf i b).mode = s.mode := rfl
@[simp] theorem State.setRxnbf_reqMode (s : State) (i : Fin Config.nRx) (b : Bool) : (s.setRxnbf i b).reqMode = s.reqMode := rfl
@[simp] theorem State.setRxnbf_abat (s : State) (i : Fin Config.nRx) (b : Bool) : (s.setRxnbf i b).abat = s.abat := rfl

@[simp] theorem State.goto_reg (s : State) (st : SpiState) : (s.goto st).reg = s.reg := rfl
@[simp] theorem State.goto_spi_state (s : State) (st : SpiState) : (s.goto st).spi.state = st := rfl
@[simp] theorem State.goto_spi_addrThenWrite (s : State) (st : SpiState) : (s.goto st).spi.addrThenWrite = s.spi.addrThenWrite := rfl
@[simp] theorem State.goto_spi_address (s : State) (st : SpiState) : (s.goto st).spi.address = s.spi.address := rfl
@[simp] theorem State.goto_spi_rxMemo (s : State) (st : SpiState) : (s.goto st).spi.rxMemo = s.spi.rxMemo := rfl
@[simp] theorem State.goto_spi_modifyMask (s : State) (st : SpiState) : (s.goto st).spi.modifyMask = s.spi.modifyMask := rfl
@[simp] theorem State.goto_cs (s : State) (st : SpiState) : (s.goto st).cs = s.cs := rfl
@[simp] theorem State.goto_irqPrev (s : State) (st : SpiState) : (s.goto st).irqPrev = s.irqPrev := rfl
@[simp] theorem State.goto_pin (s : State) (st : SpiState) : (s.goto st).pin = s.pin := rfl
@[simp] theorem State.goto_pending (s : State) (st : SpiState) : (s.goto st).pending = s.pending := rfl
@[simp] theorem State.goto_out (s : State) (st : SpiState) : (s.goto st).out = s.out := rfl
@[simp] theorem State.goto_mode (s : State) (st : SpiState) : (s.goto st).mode = s.mode := rfl
@[simp] theorem State.goto_reqMode (s : State) (st : SpiState) : (s.goto st).reqMode = s.reqMode := rfl
@[simp] theorem State.goto_abat (s : State) (st : SpiState) : (s.goto st).abat = s.abat := rfl

@[simp] theorem State.setAddress_reg (s : State) (a : Addr) : (s.setAddress a).reg = s.reg := rfl
@[simp] theorem State.setAddress_spi_state (s : State) (a : Addr) : (s.setAddress a).spi.state = s.spi.state := rfl
@[simp] theorem State.setAddress_spi_addrThenWrite (s : State) (a : Addr) : (s.setAddress a).spi.addrThenWrite = s.spi.addrThenWrite := rfl
@[simp] theorem State.setAddress_spi_address (s : State) (a : Addr) : (s.setAddress a).spi.address = a := rfl
@[simp] theorem State.setAddress_spi_rxMemo (s : State) (a : Addr) : (s.setAddress a).spi.rxMemo = s.spi.rxMemo := rfl
@[simp] theorem State.setAddress_spi_modifyMask (s : State) (a : Addr) : (s.setAddress a).spi.modifyMask = s.spi.modifyMask := rfl
@[simp] theorem State.setAddress_cs (s : State) (a : Addr) : (s.setAddress a).cs = s.cs := rfl
@[simp] theorem State.setAddress_irqPrev (s : State) (a : Addr) : (s.setAddress a).irqPrev = s.irqPrev := rfl
@[simp] theorem State.setAddress_pin (s : State) (a : Addr) : (s.setAddress a).pin = s.pin := rfl
@[simp] theorem State.setAddress_pending (s : State) (a : Addr) : (s.setAddress a).pending = s.pending := rfl
@[simp] theorem State.setAddress_out (s : State) (a : Addr) : (s.setAddress a).out = s.out := rfl
@[simp] theorem State.setAddress_mode (s : State) (a : Addr) : (s.setAddress a).mode = s.mode := rfl
@[simp] theorem State.setAddress_reqMode (s : State) (a : Addr) : (s.setAddress a).reqMode = s.reqMode := rfl
@[simp] theorem State.setAddress_abat (s : State) (a : Addr) : (s.setAddress a).abat = s.abat := rfl

@[simp] theorem State.setAddrThenWrite_reg (s : State) (b : Bool) : (s.setAddrThenWrite b).reg = s.reg := rfl
@[simp] theorem State.setAddrThenWrite_spi_state (s : State) (b : Bool) : (s.setAddrThenWrite b).spi.state = s.spi.state := rfl
@[simp] theorem State.setAddrThenWrite_spi_addrThenWrite (s : State) (b : Bool) : (s.setAddrThenWrite b).spi.addrThenWrite = b := rfl
@[simp] theorem State.setAddrThenWrite_spi_address (s : State) (b : Bool) : (s.setAddrThenWrite b).spi.address = s.spi.address := rfl
@[simp] theorem State.setAddrThenWrite_spi_rxMemo (s : State) (b : Bool) : (s.setAddrThenWrite b).spi.rxMemo = s.spi.rxMemo := rfl
@[simp] theorem State.setAddrThenWrite_spi_modifyMask (s : State) (b : Bool) : (s.setAddrThenWrite b).spi.modifyMask = s.spi.modifyMask := rfl
@[simp] theorem State.setAddrThenWrite_cs (s : State) (b : Bool) : (s.setAddrThenWrite b).cs = s.cs := rfl
@[simp] theorem State.setAddrThenWrite_irqPrev (s : State) (b : Bool) : (s.setAddrThenWrite b).irqPrev = s.irqPrev := rfl
@[simp] theorem State.setAddrThenWrite_pin (s : State) (b : Bool) : (s.setAddrThenWrite b).pin = s.pin := rfl
@[simp] theorem State.setAddrThenWrite_pending (s : State) (b : Bool) : (s.setAddrThenWrite b).pending = s.pending := rfl
@[simp] theorem State.setAddrThenWrite_out (s : State) (b : Bool) : (s.setAddrThenWrite b).out = s.out := rfl
@[simp] theorem State.setAddrThenWrite_mode (s : State) (b : Bool) : (s.setAddrThenWrite b).mode = s.mode := rfl
@[simp] theorem State.setAddrThenWrite_reqMode (s : State) (b : Bool) : (s.setAddrThenWrite b).reqMode = s.reqMode := rfl
@[simp] theorem State.setAddrThenWrite_abat (s : State) (b : Bool) : (s.setAddrThenWrite b).abat = s.abat := rfl

@[simp] theorem State.setRxMemo_reg (s : State) (m : Option (Fin Config.nRx)) : (s.setRxMemo m).reg = s.reg := rfl
@[simp] theorem State.setRxMemo_spi_state (s : State) (m : Option (Fin Config.nRx)) : (s.setRxMemo m).spi.state = s.spi.state := rfl
@[simp] theorem State.setRxMemo_spi_addrThenWrite (s : State) (m : Option (Fin Config.nRx)) : (s.setRxMemo m).spi.addrThenWrite = s.spi.addrThenWrite := rfl
@[simp] theorem State.setRxMemo_spi_address (s : State) (m : Option (Fin Config.nRx)) : (s.setRxMemo m).spi.address = s.spi.address := rfl
@[simp] theorem State.setRxMemo_spi_rxMemo (s : State) (m : Option (Fin Config.nRx)) : (s.setRxMemo m).spi.rxMemo = m := rfl
@[simp] theorem State.setRxMemo_spi_modifyMask (s : State) (m : Option (Fin Config.nRx)) : (s.setRxMemo m).spi.modifyMask = s.spi.modifyMask := rfl
@[simp] theorem State.setRxMemo_cs (s : State) (m : Option (Fin Config.nRx)) : (s.setRxMemo m).cs = s.cs := rfl
@[simp] theorem State.setRxMemo_irqPrev (s : State) (m : Option (Fin Config.nRx)) : (s.setRxMemo m).irqPrev = s.irqPrev := rfl
@[simp] theorem State.setRxMemo_pin (s : State) (m : Option (Fin Config.nRx)) : (s.setRxMemo m).pin = s.pin := rfl
@[simp] theorem State.setRxMemo_pending (s : State) (m : Option (Fin Config.nRx)) : (s.setRxMemo m).pending = s.pending := rfl
@[simp] theorem State.setRxMemo_out (s : State) (m : Option (Fin Config.nRx)) : (s.setRxMemo m).out = s.out := rfl
@[simp] theorem State.setRxMemo_mode (s : State) (m : Option (Fin Config.nRx)) : (s.setRxMemo m).mode = s.mode := rfl
@[simp] theorem State.setRxMemo_reqMode (s : State) (m : Option (Fin Config.nRx)) : (s.setRxMemo m).reqMode = s.reqMode := rfl
@[simp] theorem State.setRxMemo_abat (s : State) (m : Option (Fin Config.nRx)) : (s.setRxMemo m).abat = s.abat := rfl

@[simp] theorem State.setModifyMask_reg (s : State) (v : Byte) : (s.setModifyMask v).reg = s.reg := rfl
@[simp] theorem State.setModifyMask_spi_state (s : State) (v : Byte) : (s.setModifyMask v).spi.state = s.spi.state := rfl
@[simp] theorem State.setModifyMask_spi_addrThenWrite (s : State) (v : Byte) : (s.setModifyMask v).spi.addrThenWrite = s.spi.addrThenWrite := rfl
@[simp] theorem State.setModifyMask_spi_address (s : State) (v : Byte) : (s.setModifyMask v).spi.address = s.spi.address := rfl
@[simp] theorem State.setModifyMask_spi_rxMemo (s : State) (v : Byte) : (s.setModifyMask v).spi.rxMemo = s.spi.rxMemo := rfl
@[simp] theorem State.setModifyMask_spi_modifyMask (s : State) (v : Byte) : (s.setModifyMask v).spi.modifyMask = v := rfl
@[simp] theorem State.setModifyMask_cs (s : State) (v : Byte) : (s.setModifyMask v).cs = s.cs := rfl
@[simp] theorem State.setModifyMask_irqPrev (s : State) (v : Byte) : (s.setModifyMask v).irqPrev = s.irqPrev := rfl
@[simp] theorem State.setModifyMask_pin (s : State) (v : Byte) : (s.setModifyMask v).pin = s.pin := rfl
@[simp] theorem State.setModifyMask_pending (s : State) (v : Byte) : (s.setModifyMask v).pending = s.pending := rfl
@[simp] theorem State.setModifyMask_out (s : State) (v : Byte) : (s.setModifyMask v).out = s.out := rfl
@[simp] theorem State.setModifyMask_mode (s : State) (v : Byte) : (s.setModifyMask v).mode = s.mode := rfl
@[simp] theorem State.setModifyMask_reqMode (s : State) (v : Byte) : (s.setModifyMask v).reqMode = s.reqMode := rfl
@[simp] theorem State.setModifyMask_abat (s : State) (v : Byte) : (s.setModifyMask v).abat = s.abat := rfl

@[simp] theorem State.setCs_reg (s : State) (c : ChipSelect) : (s.setCs c).reg = s.reg := rfl
@[simp] theorem State.setCs_spi (s : State) (c : ChipSelect) : (s.setCs c).spi = s.spi := rfl
@[simp] theorem State.setCs_cs (s : State) (c : ChipSelect) : (s.setCs c).cs = c := rfl
@[simp] theorem State.setCs_irqPrev (s : State) (c : ChipSelect) : (s.setCs c).irqPrev = s.irqPrev := rfl
@[simp] theorem State.setCs_pin (s : State) (c : ChipSelect) : (s.setCs c).pin = s.pin := rfl
@[simp] theorem State.setCs_pending (s : State) (c : ChipSelect) : (s.setCs c).pending = s.pending := rfl
@[simp] theorem State.setCs_out (s : State) (c : ChipSelect) : (s.setCs c).out = s.out := rfl
@[simp] theorem State.setCs_mode (s : State) (c : ChipSelect) : (s.setCs c).mode = s.mode := rfl
@[simp] theorem State.setCs_reqMode (s : State) (c : ChipSelect) : (s.setCs c).reqMode = s.reqMode := rfl
@[simp] theorem State.setCs_abat (s : State) (c : ChipSelect) : (s.setCs c).abat = s.abat := rfl

@[simp] theorem State.reply_reg (s : State) (v : Byte) : (s.reply v).reg = s.reg := rfl
@[simp] theorem State.reply_spi (s : State) (v : Byte) : (s.reply v).spi = s.spi := rfl
@[simp] theorem State.reply_cs (s : State) (v : Byte) : (s.reply v).cs = s.cs := rfl
@[simp] theorem State.reply_irqPrev (s : State) (v : Byte) : (s.reply v).irqPrev = s.irqPrev := rfl
@[simp] theorem State.reply_pin (s : State) (v : Byte) : (s.reply v).pin = s.pin := rfl
@[simp] theorem State.reply_pending (s : State) (v : Byte) : (s.reply v).pending = s.pending := rfl
@[simp] theorem State.reply_out_miso (s : State) (v : Byte) : (s.reply v).out.miso = some v := rfl
@[simp] theorem State.reply_out_accepted (s : State) (v : Byte) : (s.reply v).out.accepted = s.out.accepted := rfl
@[simp] theorem State.reply_out_busSent (s : State) (v : Byte) : (s.reply v).out.busSent = s.out.busSent := rfl
@[simp] theorem State.reply_out_log (s : State) (v : Byte) : (s.reply v).out.log = s.out.log := rfl
@[simp] theorem State.reply_mode (s : State) (v : Byte) : (s.reply v).mode = s.mode := rfl
@[simp] theorem State.reply_reqMode (s : State) (v : Byte) : (s.reply v).reqMode = s.reqMode := rfl
@[simp] theorem State.reply_abat (s : State) (v : Byte) : (s.reply v).abat = s.abat := rfl

@[simp] theorem State.answer_reg (s : State) (b : Bool) : (s.answer b).reg = s.reg := rfl
@[simp] theorem State.answer_spi (s : State) (b : Bool) : (s.answer b).spi = s.spi := rfl
@[simp] theorem State.answer_cs (s : State) (b : Bool) : (s.answer b).cs = s.cs := rfl
@[simp] theorem State.answer_irqPrev (s : State) (b : Bool) : (s.answer b).irqPrev = s.irqPrev := rfl
@[simp] theorem State.answer_pin (s : State) (b : Bool) : (s.answer b).pin = s.pin := rfl
@[simp] theorem State.answer_pending (s : State) (b : Bool) : (s.answer b).pending = s.pending := rfl
@[simp] theorem State.answer_out_miso (s : State) (b : Bool) : (s.answer b).out.miso = s.out.miso := rfl
@[simp] theorem State.answer_out_accepted (s : State) (b : Bool) : (s.answer b).out.accepted = some b := rfl
@[simp] theorem State.answer_out_busSent (s : State) (b : Bool) : (s.answer b).out.busSent = s.out.busSent := rfl
@[simp] theorem State.answer_out_log (s : State) (b : Bool) : (s.answer b).out.log = s.out.log := rfl
@[simp] theorem State.answer_mode (s : State) (b : Bool) : (s.answer b).mode = s.mode := rfl
@[simp] theorem State.answer_reqMode (s : State) (b : Bool) : (s.answer b).reqMode = s.reqMode := rfl
@[simp] theorem State.answer_abat (s : State) (b : Bool) : (s.answer b).abat = s.abat := rfl

@[simp] theorem State.busSend_reg (s : State) (f : Frame) : (s.busSend f).reg = s.reg := rfl
@[simp] theorem State.busSend_spi (s : State) (f : Frame) : (s.busSend f).spi = s.spi := rfl
@[simp] theorem State.busSend_cs (s : State) (f : Frame) : (s.busSend f).cs = s.cs := rfl
@[simp] theorem State.busSend_irqPrev (s : State) (f : Frame) : (s.busSend f).irqPrev = s.irqPrev := rfl
@[simp] theorem State.busSend_pin (s : State) (f : Frame) : (s.busSend f).pin = s.pin := rfl
@[simp] theorem State.busSend_pending (s : State) (f : Frame) : (s.busSend f).pending = s.pending := rfl
@[simp] theorem State.busSend_out_miso (s : State) (f : Frame) : (s.busSend f).out.miso = s.out.miso := rfl
@[simp] theorem State.busSend_out_accepted (s : State) (f : Frame) : (s.busSend f).out.accepted = s.out.accepted := rfl
@[simp] theorem State.busSend_out_busSent (s : State) (f : Frame) : (s.busSend f).out.busSent = s.out.busSent ++ [f] := rfl
@[simp] theorem State.busSend_out_log (s : State) (f : Frame) : (s.busSend f).out.log = s.out.log := rfl
@[simp] theorem State.busSend_mode (s : State) (f : Frame) : (s.busSend f).mode = s.mode := rfl
@[simp] theorem State.busSend_reqMode (s : State) (f : Frame) : (s.busSend f).reqMode = s.reqMode := rfl
@[simp] theorem State.busSend_abat (s : State) (f : Frame) : (s.busSend f).abat = s.abat := rfl

@[simp] theorem State.logLine_reg (s : State) (l : LogLine) : (s.logLine l).reg = s.reg := rfl
@[simp] theorem State.logLine_spi (s : State) (l : LogLine) : (s.logLine l).spi = s.spi := rfl
@[simp] theorem State.logLine_cs (s : State) (l : LogLine) : (s.logLine l).cs = s.cs := rfl
@[simp] theorem State.logLine_irqPrev (s : State) (l : LogLine) : (s.logLine l).irqPrev = s.irqPrev := rfl
@[simp] theorem State.logLine_pin (s : State) (l : LogLine) : (s.logLine l).pin = s.pin := rfl
@[simp] theorem State.logLine_pending (s : State) (l : LogLine) : (s.logLine l).pending = s.pending := rfl
@[simp] theorem State.logLine_out_miso (s : State) (l : LogLine) : (s.logLine l).out.miso = s.out.miso := rfl
@[simp] theorem State.logLine_out_accepted (s : State) (l : LogLine) : (s.logLine l).out.accepted = s.out.accepted := rfl
@[simp] theorem State.logLine_out_busSent (s : State) (l : LogLine) : (s.logLine l).out.busSent = s.out.busSent := rfl
@[simp] theorem State.logLine_out_log (s : State) (l : LogLine) : (s.logLine l).out.log = s.out.log ++ [l] := rfl
@[simp] theorem State.logLine_mode (s : State) (l : LogLine) : (s.logLine l).mode = s.mode := rfl
@[simp] theorem State.logLine_reqMode (s : State) (l : LogLine) : (s.logLine l).reqMode = s.reqMode := rfl
@[simp] theorem State.logLine_abat (s : State) (l : LogLine) : (s.logLine l).abat = s.abat := rfl

@[simp] theorem State.beginEvent_reg (s : State) (rest : List Event) : (s.beginEvent rest).reg = s.reg := rfl
@[simp] theorem State.beginEvent_spi (s : State) (rest : List Event) : (s.beginEvent rest).spi = s.spi := rfl
@[simp] theorem State.beginEvent_cs (s : State) (rest : List Event) : (s.beginEvent rest).cs = s.cs := rfl
@[simp] theorem State.beginEvent_irqPrev (s : State) (rest : List Event) : (s.beginEvent rest).irqPrev = s.irqPrev := rfl
@[simp] theorem State.beginEvent_pin (s : State) (rest : List Event) : (s.beginEvent rest).pin = s.pin := rfl
@[simp] theorem State.beginEvent_pending (s : State) (rest : List Event) : (s.beginEvent rest).pending = rest := rfl
@[simp] theorem State.beginEvent_out (s : State) (rest : List Event) : (s.beginEvent rest).out = Output.empty := rfl
@[simp] theorem State.beginEvent_mode (s : State) (rest : List Event) : (s.beginEvent rest).mode = s.mode := rfl
@[simp] theorem State.beginEvent_reqMode (s : State) (rest : List Event) : (s.beginEvent rest).reqMode = s.reqMode := rfl
@[simp] theorem State.beginEvent_abat (s : State) (rest : List Event) : (s.beginEvent rest).abat = s.abat := rfl

@[simp] theorem fullReset_reg (s : State) : (fullReset s).reg = RegFile.reset := rfl
@[simp] theorem fullReset_spi (s : State) : (fullReset s).spi = s.spi := rfl
@[simp] theorem fullReset_cs (s : State) : (fullReset s).cs = s.cs := rfl
@[simp] theorem fullReset_irqPrev (s : State) : (fullReset s).irqPrev = 0x00 := rfl
@[simp] theorem fullReset_pin (s : State) : (fullReset s).pin = Pins.reset := rfl
@[simp] theorem fullReset_pending (s : State) : (fullReset s).pending = s.pending := rfl
@[simp] theorem fullReset_out (s : State) : (fullReset s).out = s.out := rfl

@[simp] theorem State.setCanstat_mode (s : State) (v : Byte) : (s.setCanstat v).mode = modeField v := rfl
@[simp] theorem State.setCanctrl_reqMode (s : State) (v : Byte) : (s.setCanctrl v).reqMode = modeField v := rfl
@[simp] theorem State.setCanctrl_abat (s : State) (v : Byte) : (s.setCanctrl v).abat = bit v abatBit := rfl

/-- Two states are equal when their parts are. -/
@[ext] theorem State.ext_parts {s t : State} (h1 : s.reg = t.reg) (h2 : s.spi = t.spi) (h3 : s.cs = t.cs)
    (h4 : s.irqPrev = t.irqPrev) (h5 : s.pin = t.pin) (h6 : s.pending = t.pending) (h7 : s.out = t.out) : s = t := by
  cases s
  cases t
  cases h1
  cases h2
  cases h3
  cases h4
  cases h5
  cases h6
  cases h7
  rfl

end Sys2Proof.Machine
end

