-- ==== Sys2Proof/Laws/Frames.lean ====
section
/-! SUPPORT. Frames: for each shared operation, one lemma per part of State it never changes. `irqRaiseAwake` is the
`irq_raise` of the receive path and the arbiter, `irqRaise` the one that may wake the chip. -/

namespace Sys2Proof.Machine

open Sys2Proof

/-- What every turn of a loop keeps, the loop keeps. -/
theorem foldl_keeps {α β : Type} (g : State → β) (f : State → α → State) (h : ∀ s a, g (f s a) = g s) (l : List α)
    (s : State) : g (l.foldl f s) = g s := by
  induction l generalizing s with
  | nil => rfl
  | cons a l ih =>
    rw [List.foldl_cons, ih, h]

/-- A property that every turn of a loop preserves holds after the loop. -/
theorem foldl_preserves {α : Type} (P : State → Prop) (f : State → α → State) (h : ∀ s a, P s → P (f s a))
    (l : List α) (s : State) (hs : P s) : P (l.foldl f s) := by
  induction l generalizing s with
  | nil => exact hs
  | cons a l ih => exact ih _ (h _ _ hs)

@[simp] theorem irqRaiseAwake_reg_bfpctrl (fl : Byte) (s : State) : (irqRaiseAwake fl s).reg.bfpctrl = s.reg.bfpctrl := by
  unfold irqRaiseAwake irqRaiseWith
  dsimp only
  split <;> simp [recomputeRxnbf]
@[simp] theorem irqRaiseAwake_reg_txrtsctrl (fl : Byte) (s : State) : (irqRaiseAwake fl s).reg.txrtsctrl = s.reg.txrtsctrl := by
  unfold irqRaiseAwake irqRaiseWith
  dsimp only
  split <;> simp [recomputeRxnbf]
@[simp] theorem irqRaiseAwake_reg_tecReg (fl : Byte) (s : State) : (irqRaiseAwake fl s).reg.tecReg = s.reg.tecReg := by
  unfold irqRaiseAwake irqRaiseWith
  dsimp only
  split <;> simp [recomputeRxnbf]
@[simp] theorem irqRaiseAwake_reg_recReg (fl : Byte) (s : State) : (irqRaiseAwake fl s).reg.recReg = s.reg.recReg := by
  unfold irqRaiseAwake irqRaiseWith
  dsimp only
  split <;> simp [recomputeRxnbf]
@[simp] theorem irqRaiseAwake_reg_cnf1 (fl : Byte) (s : State) : (irqRaiseAwake fl s).reg.cnf1 = s.reg.cnf1 := by
  unfold irqRaiseAwake irqRaiseWith
  dsimp only
  split <;> simp [recomputeRxnbf]
@[simp] theorem irqRaiseAwake_reg_cnf2 (fl : Byte) (s : State) : (irqRaiseAwake fl s).reg.cnf2 = s.reg.cnf2 := by
  unfold irqRaiseAwake irqRaiseWith
  dsimp only
  split <;> simp [recomputeRxnbf]
@[simp] theorem irqRaiseAwake_reg_cnf3 (fl : Byte) (s : State) : (irqRaiseAwake fl s).reg.cnf3 = s.reg.cnf3 := by
  unfold irqRaiseAwake irqRaiseWith
  dsimp only
  split <;> simp [recomputeRxnbf]
@[simp] theorem irqRaiseAwake_reg_caninte (fl : Byte) (s : State) : (irqRaiseAwake fl s).reg.caninte = s.reg.caninte := by
  unfold irqRaiseAwake irqRaiseWith
  dsimp only
  split <;> simp [recomputeRxnbf]
@[simp] theorem irqRaiseAwake_reg_filters (fl : Byte) (s : State) : (irqRaiseAwake fl s).reg.filters = s.reg.filters := by
  unfold irqRaiseAwake irqRaiseWith
  dsimp only
  split <;> simp [recomputeRxnbf]
@[simp] theorem irqRaiseAwake_reg_masks (fl : Byte) (s : State) : (irqRaiseAwake fl s).reg.masks = s.reg.masks := by
  unfold irqRaiseAwake irqRaiseWith
  dsimp only
  split <;> simp [recomputeRxnbf]
@[simp] theorem irqRaiseAwake_reg_canctrl (fl : Byte) (s : State) : (irqRaiseAwake fl s).reg.canctrl = s.reg.canctrl := by
  unfold irqRaiseAwake irqRaiseWith
  dsimp only
  split <;> simp [recomputeRxnbf]
@[simp] theorem irqRaiseAwake_reg_eflg (fl : Byte) (s : State) : (irqRaiseAwake fl s).reg.eflg = s.reg.eflg := by
  unfold irqRaiseAwake irqRaiseWith
  dsimp only
  split <;> simp [recomputeRxnbf]
@[simp] theorem irqRaiseAwake_reg_tx (fl : Byte) (s : State) : (irqRaiseAwake fl s).reg.tx = s.reg.tx := by
  unfold irqRaiseAwake irqRaiseWith
  dsimp only
  split <;> simp [recomputeRxnbf]
@[simp] theorem irqRaiseAwake_reg_rx (fl : Byte) (s : State) : (irqRaiseAwake fl s).reg.rx = s.reg.rx := by
  unfold irqRaiseAwake irqRaiseWith
  dsimp only
  split <;> simp [recomputeRxnbf]
@[simp] theorem irqRaiseAwake_spi (fl : Byte) (s : State) : (irqRaiseAwake fl s).spi = s.spi := by
  unfold irqRaiseAwake irqRaiseWith
  dsimp only
  split <;> simp [recomputeRxnbf]
@[simp] theorem irqRaiseAwake_cs (fl : Byte) (s : State) : (irqRaiseAwake fl s).cs = s.cs := by
  unfold irqRaiseAwake irqRaiseWith
  dsimp only
  split <;> simp [recomputeRxnbf]
@[simp] theorem irqRaiseAwake_pending (fl : Byte) (s : State) : (irqRaiseAwake fl s).pending = s.pending := by
  unfold irqRaiseAwake irqRaiseWith
  dsimp only
  split <;> simp [recomputeRxnbf]
@[simp] theorem irqRaiseAwake_out (fl : Byte) (s : State) : (irqRaiseAwake fl s).out = s.out := by
  unfold irqRaiseAwake irqRaiseWith
  dsimp only
  split <;> simp [recomputeRxnbf]
@[simp] theorem irqRaiseAwake_reqMode (fl : Byte) (s : State) : (irqRaiseAwake fl s).reqMode = s.reqMode := by
  unfold irqRaiseAwake irqRaiseWith
  dsimp only
  split <;> simp [recomputeRxnbf]
@[simp] theorem irqRaiseAwake_abat (fl : Byte) (s : State) : (irqRaiseAwake fl s).abat = s.abat := by
  unfold irqRaiseAwake irqRaiseWith
  dsimp only
  split <;> simp [recomputeRxnbf]

@[simp] theorem irqRaiseAwake_mode (fl : Byte) (s : State) : (irqRaiseAwake fl s).mode = s.mode := by
  unfold irqRaiseAwake irqRaiseWith
  dsimp only
  split <;> simp [recomputeRxnbf, State.mode]

@[simp] theorem irqRaiseAwake_canintf (fl : Byte) (s : State) :
    (irqRaiseAwake fl s).reg.canintf = s.reg.canintf ||| fl := by
  unfold irqRaiseAwake irqRaiseWith
  dsimp only
  split <;> simp [recomputeRxnbf]

@[simp] theorem dispatchAwake_reg_bfpctrl (f : Frame) (b : Fin Config.nRx) (k : Fin Config.nFilter) (s : State) : (dispatchWith irqRaiseAwake f b k s).reg.bfpctrl = s.reg.bfpctrl := by
  simp [dispatchWith]
@[simp] theorem dispatchAwake_reg_txrtsctrl (f : Frame) (b : Fin Config.nRx) (k : Fin Config.nFilter) (s : State) : (dispatchWith irqRaiseAwake f b k s).reg.txrtsctrl = s.reg.txrtsctrl := by
  simp [dispatchWith]
@[simp] theorem dispatchAwake_reg_tecReg (f : Frame) (b : Fin Config.nRx) (k : Fin Config.nFilter) (s : State) : (dispatchWith irqRaiseAwake f b k s).reg.tecReg = s.reg.tecReg := by
  simp [dispatchWith]
@[simp] theorem dispatchAwake_reg_recReg (f : Frame) (b : Fin Config.nRx) (k : Fin Config.nFilter) (s : State) : (dispatchWith irqRaiseAwake f b k s).reg.recReg = s.reg.recReg := by
  simp [dispatchWith]
@[simp] theorem dispatchAwake_reg_cnf1 (f : Frame) (b : Fin Config.nRx) (k : Fin Config.nFilter) (s : State) : (dispatchWith irqRaiseAwake f b k s).reg.cnf1 = s.reg.cnf1 := by
  simp [dispatchWith]
@[simp] theorem dispatchAwake_reg_cnf2 (f : Frame) (b : Fin Config.nRx) (k : Fin Config.nFilter) (s : State) : (dispatchWith irqRaiseAwake f b k s).reg.cnf2 = s.reg.cnf2 := by
  simp [dispatchWith]
@[simp] theorem dispatchAwake_reg_cnf3 (f : Frame) (b : Fin Config.nRx) (k : Fin Config.nFilter) (s : State) : (dispatchWith irqRaiseAwake f b k s).reg.cnf3 = s.reg.cnf3 := by
  simp [dispatchWith]
@[simp] theorem dispatchAwake_reg_caninte (f : Frame) (b : Fin Config.nRx) (k : Fin Config.nFilter) (s : State) : (dispatchWith irqRaiseAwake f b k s).reg.caninte = s.reg.caninte := by
  simp [dispatchWith]
@[simp] theorem dispatchAwake_reg_filters (f : Frame) (b : Fin Config.nRx) (k : Fin Config.nFilter) (s : State) : (dispatchWith irqRaiseAwake f b k s).reg.filters = s.reg.filters := by
  simp [dispatchWith]
@[simp] theorem dispatchAwake_reg_masks (f : Frame) (b : Fin Config.nRx) (k : Fin Config.nFilter) (s : State) : (dispatchWith irqRaiseAwake f b k s).reg.masks = s.reg.masks := by
  simp [dispatchWith]
@[simp] theorem dispatchAwake_reg_canctrl (f : Frame) (b : Fin Config.nRx) (k : Fin Config.nFilter) (s : State) : (dispatchWith irqRaiseAwake f b k s).reg.canctrl = s.reg.canctrl := by
  simp [dispatchWith]
@[simp] theorem dispatchAwake_reg_tx (f : Frame) (b : Fin Config.nRx) (k : Fin Config.nFilter) (s : State) : (dispatchWith irqRaiseAwake f b k s).reg.tx = s.reg.tx := by
  simp [dispatchWith]
@[simp] theorem dispatchAwake_spi (f : Frame) (b : Fin Config.nRx) (k : Fin Config.nFilter) (s : State) : (dispatchWith irqRaiseAwake f b k s).spi = s.spi := by
  simp [dispatchWith]
@[simp] theorem dispatchAwake_cs (f : Frame) (b : Fin Config.nRx) (k : Fin Config.nFilter) (s : State) : (dispatchWith irqRaiseAwake f b k s).cs = s.cs := by
  simp [dispatchWith]
@[simp] theorem dispatchAwake_pending (f : Frame) (b : Fin Config.nRx) (k : Fin Config.nFilter) (s : State) : (dispatchWith irqRaiseAwake f b k s).pending = s.pending := by
  simp [dispatchWith]
@[simp] theorem dispatchAwake_out (f : Frame) (b : Fin Config.nRx) (k : Fin Config.nFilter) (s : State) : (dispatchWith irqRaiseAwake f b k s).out = s.out := by
  simp [dispatchWith]
@[simp] theorem dispatchAwake_mode (f : Frame) (b : Fin Config.nRx) (k : Fin Config.nFilter) (s : State) : (dispatchWith irqRaiseAwake f b k s).mode = s.mode := by
  simp [dispatchWith]
@[simp] theorem dispatchAwake_reqMode (f : Frame) (b : Fin Config.nRx) (k : Fin Config.nFilter) (s : State) : (dispatchWith irqRaiseAwake f b k s).reqMode = s.reqMode := by
  simp [dispatchWith]
@[simp] theorem dispatchAwake_abat (f : Frame) (b : Fin Config.nRx) (k : Fin Config.nFilter) (s : State) : (dispatchWith irqRaiseAwake f b k s).abat = s.abat := by
  simp [dispatchWith]
@[simp] theorem dispatchAwake_reg_eflg (f : Frame) (b : Fin Config.nRx) (k : Fin Config.nFilter) (s : State) : (dispatchWith irqRaiseAwake f b k s).reg.eflg = s.reg.eflg := by
  simp [dispatchWith]

@[simp] theorem rxOverflowAwake_reg_bfpctrl (n : Fin Config.nRx) (s : State) : (raiseConditionWith irqRaiseAwake (.rxOverflow n) s).reg.bfpctrl = s.reg.bfpctrl := by
  simp [raiseConditionWith]
@[simp] theorem rxOverflowAwake_reg_txrtsctrl (n : Fin Config.nRx) (s : State) : (raiseConditionWith irqRaiseAwake (.rxOverflow n) s).reg.txrtsctrl = s.reg.txrtsctrl := by
  simp [raiseConditionWith]
@[simp] theorem rxOverflowAwake_reg_tecReg (n : Fin Config.nRx) (s : State) : (raiseConditionWith irqRaiseAwake (.rxOverflow n) s).reg.tecReg = s.reg.tecReg := by
  simp [raiseConditionWith]
@[simp] theorem rxOverflowAwake_reg_recReg (n : Fin Config.nRx) (s : State) : (raiseConditionWith irqRaiseAwake (.rxOverflow n) s).reg.recReg = s.reg.recReg := by
  simp [raiseConditionWith]
@[simp] theorem rxOverflowAwake_reg_cnf1 (n : Fin Config.nRx) (s : State) : (raiseConditionWith irqRaiseAwake (.rxOverflow n) s).reg.cnf1 = s.reg.cnf1 := by
  simp [raiseConditionWith]
@[simp] theorem rxOverflowAwake_reg_cnf2 (n : Fin Config.nRx) (s : State) : (raiseConditionWith irqRaiseAwake (.rxOverflow n) s).reg.cnf2 = s.reg.cnf2 := by
  simp [raiseConditionWith]
@[simp] theorem rxOverflowAwake_reg_cnf3 (n : Fin Config.nRx) (s : State) : (raiseConditionWith irqRaiseAwake (.rxOverflow n) s).reg.cnf3 = s.reg.cnf3 := by
  simp [raiseConditionWith]
@[simp] theorem rxOverflowAwake_reg_caninte (n : Fin Config.nRx) (s : State) : (raiseConditionWith irqRaiseAwake (.rxOverflow n) s).reg.caninte = s.reg.caninte := by
  simp [raiseConditionWith]
@[simp] theorem rxOverflowAwake_reg_filters (n : Fin Config.nRx) (s : State) : (raiseConditionWith irqRaiseAwake (.rxOverflow n) s).reg.filters = s.reg.filters := by
  simp [raiseConditionWith]
@[simp] theorem rxOverflowAwake_reg_masks (n : Fin Config.nRx) (s : State) : (raiseConditionWith irqRaiseAwake (.rxOverflow n) s).reg.masks = s.reg.masks := by
  simp [raiseConditionWith]
@[simp] theorem rxOverflowAwake_reg_canctrl (n : Fin Config.nRx) (s : State) : (raiseConditionWith irqRaiseAwake (.rxOverflow n) s).reg.canctrl = s.reg.canctrl := by
  simp [raiseConditionWith]
@[simp] theorem rxOverflowAwake_reg_tx (n : Fin Config.nRx) (s : State) : (raiseConditionWith irqRaiseAwake (.rxOverflow n) s).reg.tx = s.reg.tx := by
  simp [raiseConditionWith]
@[simp] theorem rxOverflowAwake_spi (n : Fin Config.nRx) (s : State) : (raiseConditionWith irqRaiseAwake (.rxOverflow n) s).spi = s.spi := by
  simp [raiseConditionWith]
@[simp] theorem rxOverflowAwake_cs (n : Fin Config.nRx) (s : State) : (raiseConditionWith irqRaiseAwake (.rxOverflow n) s).cs = s.cs := by
  simp [raiseConditionWith]
@[simp] theorem rxOverflowAwake_pending (n : Fin Config.nRx) (s : State) : (raiseConditionWith irqRaiseAwake (.rxOverflow n) s).pending = s.pending := by
  simp [raiseConditionWith]
@[simp] theorem rxOverflowAwake_out (n : Fin Config.nRx) (s : State) : (raiseConditionWith irqRaiseAwake (.rxOverflow n) s).out = s.out := by
  simp [raiseConditionWith]
@[simp] theorem rxOverflowAwake_mode (n : Fin Config.nRx) (s : State) : (raiseConditionWith irqRaiseAwake (.rxOverflow n) s).mode = s.mode := by
  simp [raiseConditionWith]
@[simp] theorem rxOverflowAwake_reqMode (n : Fin Config.nRx) (s : State) : (raiseConditionWith irqRaiseAwake (.rxOverflow n) s).reqMode = s.reqMode := by
  simp [raiseConditionWith]
@[simp] theorem rxOverflowAwake_abat (n : Fin Config.nRx) (s : State) : (raiseConditionWith irqRaiseAwake (.rxOverflow n) s).abat = s.abat := by
  simp [raiseConditionWith]
@[simp] theorem rxOverflowAwake_reg_rx (n : Fin Config.nRx) (s : State) : (raiseConditionWith irqRaiseAwake (.rxOverflow n) s).reg.rx = s.reg.rx := by
  simp [raiseConditionWith]

@[simp] theorem raiseCondition_configError (irq : Byte → State → State) (n : Fin Config.nRx) (s : State) :
    raiseConditionWith irq (.configError n) s = s := rfl

@[simp] theorem raiseCondition_protocolError (irq : Byte → State → State) (b : Byte) (s : State) :
    raiseConditionWith irq (.protocolError b) s = s.logLine .invalidCommand := rfl

@[simp] theorem acceptFor0Awake_reg_bfpctrl (f : Frame) (k : Fin Config.nFilter) (s : State) : (acceptFor0With irqRaiseAwake f k s).reg.bfpctrl = s.reg.bfpctrl := by
  unfold acceptFor0With
  split
  · simp
  · split
    · split <;> simp
    · simp
@[simp] theorem acceptFor0Awake_reg_txrtsctrl (f : Frame) (k : Fin Config.nFilter) (s : State) : (acceptFor0With irqRaiseAwake f k s).reg.txrtsctrl = s.reg.txrtsctrl := by
  unfold acceptFor0With
  split
  · simp
  · split
    · split <;> simp
    · simp
@[simp] theorem acceptFor0Awake_reg_tecReg (f : Frame) (k : Fin Config.nFilter) (s : State) : (acceptFor0With irqRaiseAwake f k s).reg.tecReg = s.reg.tecReg := by
  unfold acceptFor0With
  split
  · simp
  · split
    · split <;> simp
    · simp
@[simp] theorem acceptFor0Awake_reg_recReg (f : Frame) (k : Fin Config.nFilter) (s : State) : (acceptFor0With irqRaiseAwake f k s).reg.recReg = s.reg.recReg := by
  unfold acceptFor0With
  split
  · simp
  · split
    · split <;> simp
    · simp
@[simp] theorem acceptFor0Awake_reg_cnf1 (f : Frame) (k : Fin Config.nFilter) (s : State) : (acceptFor0With irqRaiseAwake f k s).reg.cnf1 = s.reg.cnf1 := by
  unfold acceptFor0With
  split
  · simp
  · split
    · split <;> simp
    · simp
@[simp] theorem acceptFor0Awake_reg_cnf2 (f : Frame) (k : Fin Config.nFilter) (s : State) : (acceptFor0With irqRaiseAwake f k s).reg.cnf2 = s.reg.cnf2 := by
  unfold acceptFor0With
  split
  · simp
  · split
    · split <;> simp
    · simp
@[simp] theorem acceptFor0Awake_reg_cnf3 (f : Frame) (k : Fin Config.nFilter) (s : State) : (acceptFor0With irqRaiseAwake f k s).reg.cnf3 = s.reg.cnf3 := by
  unfold acceptFor0With
  split
  · simp
  · split
    · split <;> simp
    · simp
@[simp] theorem acceptFor0Awake_reg_caninte (f : Frame) (k : Fin Config.nFilter) (s : State) : (acceptFor0With irqRaiseAwake f k s).reg.caninte = s.reg.caninte := by
  unfold acceptFor0With
  split
  · simp
  · split
    · split <;> simp
    · simp
@[simp] theorem acceptFor0Awake_reg_filters (f : Frame) (k : Fin Config.nFilter) (s : State) : (acceptFor0With irqRaiseAwake f k s).reg.filters = s.reg.filters := by
  unfold acceptFor0With
  split
  · simp
  · split
    · split <;> simp
    · simp
@[simp] theorem acceptFor0Awake_reg_masks (f : Frame) (k : Fin Config.nFilter) (s : State) : (acceptFor0With irqRaiseAwake f k s).reg.masks = s.reg.masks := by
  unfold acceptFor0With
  split
  · simp
  · split
    · split <;> simp
    · simp
@[simp] theorem acceptFor0Awake_reg_canctrl (f : Frame) (k : Fin Config.nFilter) (s : State) : (acceptFor0With irqRaiseAwake f k s).reg.canctrl = s.reg.canctrl := by
  unfold acceptFor0With
  split
  · simp
  · split
    · split <;> simp
    · simp
@[simp] theorem acceptFor0Awake_reg_tx (f : Frame) (k : Fin Config.nFilter) (s : State) : (acceptFor0With irqRaiseAwake f k s).reg.tx = s.reg.tx := by
  unfold acceptFor0With
  split
  · simp
  · split
    · split <;> simp
    · simp
@[simp] theorem acceptFor0Awake_spi (f : Frame) (k : Fin Config.nFilter) (s : State) : (acceptFor0With irqRaiseAwake f k s).spi = s.spi := by
  unfold acceptFor0With
  split
  · simp
  · split
    · split <;> simp
    · simp
@[simp] theorem acceptFor0Awake_cs (f : Frame) (k : Fin Config.nFilter) (s : State) : (acceptFor0With irqRaiseAwake f k s).cs = s.cs := by
  unfold acceptFor0With
  split
  · simp
  · split
    · split <;> simp
    · simp
@[simp] theorem acceptFor0Awake_pending (f : Frame) (k : Fin Config.nFilter) (s : State) : (acceptFor0With irqRaiseAwake f k s).pending = s.pending := by
  unfold acceptFor0With
  split
  · simp
  · split
    · split <;> simp
    · simp
@[simp] theorem acceptFor0Awake_out (f : Frame) (k : Fin Config.nFilter) (s : State) : (acceptFor0With irqRaiseAwake f k s).out = s.out := by
  unfold acceptFor0With
  split
  · simp
  · split
    · split <;> simp
    · simp
@[simp] theorem acceptFor0Awake_mode (f : Frame) (k : Fin Config.nFilter) (s : State) : (acceptFor0With irqRaiseAwake f k s).mode = s.mode := by
  unfold acceptFor0With
  split
  · simp
  · split
    · split <;> simp
    · simp
@[simp] theorem acceptFor0Awake_reqMode (f : Frame) (k : Fin Config.nFilter) (s : State) : (acceptFor0With irqRaiseAwake f k s).reqMode = s.reqMode := by
  unfold acceptFor0With
  split
  · simp
  · split
    · split <;> simp
    · simp
@[simp] theorem acceptFor0Awake_abat (f : Frame) (k : Fin Config.nFilter) (s : State) : (acceptFor0With irqRaiseAwake f k s).abat = s.abat := by
  unfold acceptFor0With
  split
  · simp
  · split
    · split <;> simp
    · simp

@[simp] theorem offerTo1Awake_reg_bfpctrl (f : Frame) (s : State) : (offerTo1With irqRaiseAwake f s).reg.bfpctrl = s.reg.bfpctrl := by
  unfold offerTo1With
  split
  · split <;> simp
  · simp
  · simp
@[simp] theorem offerTo1Awake_reg_txrtsctrl (f : Frame) (s : State) : (offerTo1With irqRaiseAwake f s).reg.txrtsctrl = s.reg.txrtsctrl := by
  unfold offerTo1With
  split
  · split <;> simp
  · simp
  · simp
@[simp] theorem offerTo1Awake_reg_tecReg (f : Frame) (s : State) : (offerTo1With irqRaiseAwake f s).reg.tecReg = s.reg.tecReg := by
  unfold offerTo1With
  split
  · split <;> simp
  · simp
  · simp
@[simp] theorem offerTo1Awake_reg_recReg (f : Frame) (s : State) : (offerTo1With irqRaiseAwake f s).reg.recReg = s.reg.recReg := by
  unfold offerTo1With
  split
  · split <;> simp
  · simp
  · simp
@[simp] theorem offerTo1Awake_reg_cnf1 (f : Frame) (s : State) : (offerTo1With irqRaiseAwake f s).reg.cnf1 = s.reg.cnf1 := by
  unfold offerTo1With
  split
  · split <;> simp
  · simp
  · simp
@[simp] theorem offerTo1Awake_reg_cnf2 (f : Frame) (s : State) : (offerTo1With irqRaiseAwake f s).reg.cnf2 = s.reg.cnf2 := by
  unfold offerTo1With
  split
  · split <;> simp
  · simp
  · simp
@[simp] theorem offerTo1Awake_reg_cnf3 (f : Frame) (s : State) : (offerTo1With irqRaiseAwake f s).reg.cnf3 = s.reg.cnf3 := by
  unfold offerTo1With
  split
  · split <;> simp
  · simp
  · simp
@[simp] theorem offerTo1Awake_reg_caninte (f : Frame) (s : State) : (offerTo1With irqRaiseAwake f s).reg.caninte = s.reg.caninte := by
  unfold offerTo1With
  split
  · split <;> simp
  · simp
  · simp
@[simp] theorem offerTo1Awake_reg_filters (f : Frame) (s : State) : (offerTo1With irqRaiseAwake f s).reg.filters = s.reg.filters := by
  unfold offerTo1With
  split
  · split <;> simp
  · simp
  · simp
@[simp] theorem offerTo1Awake_reg_masks (f : Frame) (s : State) : (offerTo1With irqRaiseAwake f s).reg.masks = s.reg.masks := by
  unfold offerTo1With
  split
  · split <;> simp
  · simp
  · simp
@[simp] theorem offerTo1Awake_reg_canctrl (f : Frame) (s : State) : (offerTo1With irqRaiseAwake f s).reg.canctrl = s.reg.canctrl := by
  unfold offerTo1With
  split
  · split <;> simp
  · simp
  · simp
@[simp] theorem offerTo1Awake_reg_tx (f : Frame) (s : State) : (offerTo1With irqRaiseAwake f s).reg.tx = s.reg.tx := by
  unfold offerTo1With
  split
  · split <;> simp
  · simp
  · simp
@[simp] theorem offerTo1Awake_spi (f : Frame) (s : State) : (offerTo1With irqRaiseAwake f s).spi = s.spi := by
  unfold offerTo1With
  split
  · split <;> simp
  · simp
  · simp
@[simp] theorem offerTo1Awake_cs (f : Frame) (s : State) : (offerTo1With irqRaiseAwake f s).cs = s.cs := by
  unfold offerTo1With
  split
  · split <;> simp
  · simp
  · simp
@[simp] theorem offerTo1Awake_pending (f : Frame) (s : State) : (offerTo1With irqRaiseAwake f s).pending = s.pending := by
  unfold offerTo1With
  split
  · split <;> simp
  · simp
  · simp
@[simp] theorem offerTo1Awake_out (f : Frame) (s : State) : (offerTo1With irqRaiseAwake f s).out = s.out := by
  unfold offerTo1With
  split
  · split <;> simp
  · simp
  · simp
@[simp] theorem offerTo1Awake_mode (f : Frame) (s : State) : (offerTo1With irqRaiseAwake f s).mode = s.mode := by
  unfold offerTo1With
  split
  · split <;> simp
  · simp
  · simp
@[simp] theorem offerTo1Awake_reqMode (f : Frame) (s : State) : (offerTo1With irqRaiseAwake f s).reqMode = s.reqMode := by
  unfold offerTo1With
  split
  · split <;> simp
  · simp
  · simp
@[simp] theorem offerTo1Awake_abat (f : Frame) (s : State) : (offerTo1With irqRaiseAwake f s).abat = s.abat := by
  unfold offerTo1With
  split
  · split <;> simp
  · simp
  · simp

@[simp] theorem receiveAwake_reg_bfpctrl (f : Frame) (s : State) : (receiveWith irqRaiseAwake f s).reg.bfpctrl = s.reg.bfpctrl := by
  unfold receiveWith
  split <;> simp
@[simp] theorem receiveAwake_reg_txrtsctrl (f : Frame) (s : State) : (receiveWith irqRaiseAwake f s).reg.txrtsctrl = s.reg.txrtsctrl := by
  unfold receiveWith
  split <;> simp
@[simp] theorem receiveAwake_reg_tecReg (f : Frame) (s : State) : (receiveWith irqRaiseAwake f s).reg.tecReg = s.reg.tecReg := by
  unfold receiveWith
  split <;> simp
@[simp] theorem receiveAwake_reg_recReg (f : Frame) (s : State) : (receiveWith irqRaiseAwake f s).reg.recReg = s.reg.recReg := by
  unfold receiveWith
  split <;> simp
@[simp] theorem receiveAwake_reg_cnf1 (f : Frame) (s : State) : (receiveWith irqRaiseAwake f s).reg.cnf1 = s.reg.cnf1 := by
  unfold receiveWith
  split <;> simp
@[simp] theorem receiveAwake_reg_cnf2 (f : Frame) (s : State) : (receiveWith irqRaiseAwake f s).reg.cnf2 = s.reg.cnf2 := by
  unfold receiveWith
  split <;> simp
@[simp] theorem receiveAwake_reg_cnf3 (f : Frame) (s : State) : (receiveWith irqRaiseAwake f s).reg.cnf3 = s.reg.cnf3 := by
  unfold receiveWith
  split <;> simp
@[simp] theorem receiveAwake_reg_caninte (f : Frame) (s : State) : (receiveWith irqRaiseAwake f s).reg.caninte = s.reg.caninte := by
  unfold receiveWith
  split <;> simp
@[simp] theorem receiveAwake_reg_filters (f : Frame) (s : State) : (receiveWith irqRaiseAwake f s).reg.filters = s.reg.filters := by
  unfold receiveWith
  split <;> simp
@[simp] theorem receiveAwake_reg_masks (f : Frame) (s : State) : (receiveWith irqRaiseAwake f s).reg.masks = s.reg.masks := by
  unfold receiveWith
  split <;> simp
@[simp] theorem receiveAwake_reg_canctrl (f : Frame) (s : State) : (receiveWith irqRaiseAwake f s).reg.canctrl = s.reg.canctrl := by
  unfold receiveWith
  split <;> simp
@[simp] theorem receiveAwake_reg_tx (f : Frame) (s : State) : (receiveWith irqRaiseAwake f s).reg.tx = s.reg.tx := by
  unfold receiveWith
  split <;> simp
@[simp] theorem receiveAwake_spi (f : Frame) (s : State) : (receiveWith irqRaiseAwake f s).spi = s.spi := by
  unfold receiveWith
  split <;> simp
@[simp] theorem receiveAwake_cs (f : Frame) (s : State) : (receiveWith irqRaiseAwake f s).cs = s.cs := by
  unfold receiveWith
  split <;> simp
@[simp] theorem receiveAwake_pending (f : Frame) (s : State) : (receiveWith irqRaiseAwake f s).pending = s.pending := by
  unfold receiveWith
  split <;> simp
@[simp] theorem receiveAwake_out (f : Frame) (s : State) : (receiveWith irqRaiseAwake f s).out = s.out := by
  unfold receiveWith
  split <;> simp
@[simp] theorem receiveAwake_mode (f : Frame) (s : State) : (receiveWith irqRaiseAwake f s).mode = s.mode := by
  unfold receiveWith
  split <;> simp
@[simp] theorem receiveAwake_reqMode (f : Frame) (s : State) : (receiveWith irqRaiseAwake f s).reqMode = s.reqMode := by
  unfold receiveWith
  split <;> simp
@[simp] theorem receiveAwake_abat (f : Frame) (s : State) : (receiveWith irqRaiseAwake f s).abat = s.abat := by
  unfold receiveWith
  split <;> simp

@[simp] theorem onFrameAwake_reg_bfpctrl (f : Frame) (s : State) : ((onFrameWith irqRaiseAwake f s).2).reg.bfpctrl = s.reg.bfpctrl := by
  unfold onFrameWith
  split
  · rfl
  · split <;> simp
@[simp] theorem onFrameAwake_reg_txrtsctrl (f : Frame) (s : State) : ((onFrameWith irqRaiseAwake f s).2).reg.txrtsctrl = s.reg.txrtsctrl := by
  unfold onFrameWith
  split
  · rfl
  · split <;> simp
@[simp] theorem onFrameAwake_reg_tecReg (f : Frame) (s : State) : ((onFrameWith irqRaiseAwake f s).2).reg.tecReg = s.reg.tecReg := by
  unfold onFrameWith
  split
  · rfl
  · split <;> simp
@[simp] theorem onFrameAwake_reg_recReg (f : Frame) (s : State) : ((onFrameWith irqRaiseAwake f s).2).reg.recReg = s.reg.recReg := by
  unfold onFrameWith
  split
  · rfl
  · split <;> simp
@[simp] theorem onFrameAwake_reg_cnf1 (f : Frame) (s : State) : ((onFrameWith irqRaiseAwake f s).2).reg.cnf1 = s.reg.cnf1 := by
  unfold onFrameWith
  split
  · rfl
  · split <;> simp
@[simp] theorem onFrameAwake_reg_cnf2 (f : Frame) (s : State) : ((onFrameWith irqRaiseAwake f s).2).reg.cnf2 = s.reg.cnf2 := by
  unfold onFrameWith
  split
  · rfl
  · split <;> simp
@[simp] theorem onFrameAwake_reg_cnf3 (f : Frame) (s : State) : ((onFrameWith irqRaiseAwake f s).2).reg.cnf3 = s.reg.cnf3 := by
  unfold onFrameWith
  split
  · rfl
  · split <;> simp
@[simp] theorem onFrameAwake_reg_caninte (f : Frame) (s : State) : ((onFrameWith irqRaiseAwake f s).2).reg.caninte = s.reg.caninte := by
  unfold onFrameWith
  split
  · rfl
  · split <;> simp
@[simp] theorem onFrameAwake_reg_filters (f : Frame) (s : State) : ((onFrameWith irqRaiseAwake f s).2).reg.filters = s.reg.filters := by
  unfold onFrameWith
  split
  · rfl
  · split <;> simp
@[simp] theorem onFrameAwake_reg_masks (f : Frame) (s : State) : ((onFrameWith irqRaiseAwake f s).2).reg.masks = s.reg.masks := by
  unfold onFrameWith
  split
  · rfl
  · split <;> simp
@[simp] theorem onFrameAwake_reg_canctrl (f : Frame) (s : State) : ((onFrameWith irqRaiseAwake f s).2).reg.canctrl = s.reg.canctrl := by
  unfold onFrameWith
  split
  · rfl
  · split <;> simp
@[simp] theorem onFrameAwake_reg_tx (f : Frame) (s : State) : ((onFrameWith irqRaiseAwake f s).2).reg.tx = s.reg.tx := by
  unfold onFrameWith
  split
  · rfl
  · split <;> simp
@[simp] theorem onFrameAwake_spi (f : Frame) (s : State) : ((onFrameWith irqRaiseAwake f s).2).spi = s.spi := by
  unfold onFrameWith
  split
  · rfl
  · split <;> simp
@[simp] theorem onFrameAwake_cs (f : Frame) (s : State) : ((onFrameWith irqRaiseAwake f s).2).cs = s.cs := by
  unfold onFrameWith
  split
  · rfl
  · split <;> simp
@[simp] theorem onFrameAwake_pending (f : Frame) (s : State) : ((onFrameWith irqRaiseAwake f s).2).pending = s.pending := by
  unfold onFrameWith
  split
  · rfl
  · split <;> simp
@[simp] theorem onFrameAwake_out (f : Frame) (s : State) : ((onFrameWith irqRaiseAwake f s).2).out = s.out := by
  unfold onFrameWith
  split
  · rfl
  · split <;> simp
@[simp] theorem onFrameAwake_mode (f : Frame) (s : State) : ((onFrameWith irqRaiseAwake f s).2).mode = s.mode := by
  unfold onFrameWith
  split
  · rfl
  · split <;> simp
@[simp] theorem onFrameAwake_reqMode (f : Frame) (s : State) : ((onFrameWith irqRaiseAwake f s).2).reqMode = s.reqMode := by
  unfold onFrameWith
  split
  · rfl
  · split <;> simp
@[simp] theorem onFrameAwake_abat (f : Frame) (s : State) : ((onFrameWith irqRaiseAwake f s).2).abat = s.abat := by
  unfold onFrameWith
  split
  · rfl
  · split <;> simp

@[simp] theorem setTxCtrlBit_reg_bfpctrl (s : State) (n : Fin Config.nTx) (i : Nat) (b : Bool) : (s.setTxCtrlBit n i b).reg.bfpctrl = s.reg.bfpctrl := by
  simp [State.setTxCtrlBit]
@[simp] theorem setTxCtrlBit_reg_txrtsctrl (s : State) (n : Fin Config.nTx) (i : Nat) (b : Bool) : (s.setTxCtrlBit n i b).reg.txrtsctrl = s.reg.txrtsctrl := by
  simp [State.setTxCtrlBit]
@[simp] theorem setTxCtrlBit_reg_tecReg (s : State) (n : Fin Config.nTx) (i : Nat) (b : Bool) : (s.setTxCtrlBit n i b).reg.tecReg = s.reg.tecReg := by
  simp [State.setTxCtrlBit]
@[simp] theorem setTxCtrlBit_reg_recReg (s : State) (n : Fin Config.nTx) (i : Nat) (b : Bool) : (s.setTxCtrlBit n i b).reg.recReg = s.reg.recReg := by
  simp [State.setTxCtrlBit]
@[simp] theorem setTxCtrlBit_reg_cnf1 (s : State) (n : Fin Config.nTx) (i : Nat) (b : Bool) : (s.setTxCtrlBit n i b).reg.cnf1 = s.reg.cnf1 := by
  simp [State.setTxCtrlBit]
@[simp] theorem setTxCtrlBit_reg_cnf2 (s : State) (n : Fin Config.nTx) (i : Nat) (b : Bool) : (s.setTxCtrlBit n i b).reg.cnf2 = s.reg.cnf2 := by
  simp [State.setTxCtrlBit]
@[simp] theorem setTxCtrlBit_reg_cnf3 (s : State) (n : Fin Config.nTx) (i : Nat) (b : Bool) : (s.setTxCtrlBit n i b).reg.cnf3 = s.reg.cnf3 := by
  simp [State.setTxCtrlBit]
@[simp] theorem setTxCtrlBit_reg_caninte (s : State) (n : Fin Config.nTx) (i : Nat) (b : Bool) : (s.setTxCtrlBit n i b).reg.caninte = s.reg.caninte := by
  simp [State.setTxCtrlBit]
@[simp] theorem setTxCtrlBit_reg_filters (s : State) (n : Fin Config.nTx) (i : Nat) (b : Bool) : (s.setTxCtrlBit n i b).reg.filters = s.reg.filters := by
  simp [State.setTxCtrlBit]
@[simp] theorem setTxCtrlBit_reg_masks (s : State) (n : Fin Config.nTx) (i : Nat) (b : Bool) : (s.setTxCtrlBit n i b).reg.masks = s.reg.masks := by
  simp [State.setTxCtrlBit]
@[simp] theorem setTxCtrlBit_reg_canctrl (s : State) (n : Fin Config.nTx) (i : Nat) (b : Bool) : (s.setTxCtrlBit n i b).reg.canctrl = s.reg.canctrl := by
  simp [State.setTxCtrlBit]
@[simp] theorem setTxCtrlBit_spi (s : State) (n : Fin Config.nTx) (i : Nat) (b : Bool) : (s.setTxCtrlBit n i b).spi = s.spi := by
  simp [State.setTxCtrlBit]
@[simp] theorem setTxCtrlBit_cs (s : State) (n : Fin Config.nTx) (i : Nat) (b : Bool) : (s.setTxCtrlBit n i b).cs = s.cs := by
  simp [State.setTxCtrlBit]
@[simp] theorem setTxCtrlBit_pending (s : State) (n : Fin Config.nTx) (i : Nat) (b : Bool) : (s.setTxCtrlBit n i b).pending = s.pending := by
  simp [State.setTxCtrlBit]
@[simp] theorem setTxCtrlBit_out_miso (s : State) (n : Fin Config.nTx) (i : Nat) (b : Bool) : (s.setTxCtrlBit n i b).out.miso = s.out.miso := by
  simp [State.setTxCtrlBit]
@[simp] theorem setTxCtrlBit_out_accepted (s : State) (n : Fin Config.nTx) (i : Nat) (b : Bool) : (s.setTxCtrlBit n i b).out.accepted = s.out.accepted := by
  simp [State.setTxCtrlBit]
@[simp] theorem setTxCtrlBit_out_log (s : State) (n : Fin Config.nTx) (i : Nat) (b : Bool) : (s.setTxCtrlBit n i b).out.log = s.out.log := by
  simp [State.setTxCtrlBit]
@[simp] theorem setTxCtrlBit_mode (s : State) (n : Fin Config.nTx) (i : Nat) (b : Bool) : (s.setTxCtrlBit n i b).mode = s.mode := by
  simp [State.setTxCtrlBit]
@[simp] theorem setTxCtrlBit_reqMode (s : State) (n : Fin Config.nTx) (i : Nat) (b : Bool) : (s.setTxCtrlBit n i b).reqMode = s.reqMode := by
  simp [State.setTxCtrlBit]
@[simp] theorem setTxCtrlBit_abat (s : State) (n : Fin Config.nTx) (i : Nat) (b : Bool) : (s.setTxCtrlBit n i b).abat = s.abat := by
  simp [State.setTxCtrlBit]
@[simp] theorem setTxCtrlBit_reg_canstat (s : State) (n : Fin Config.nTx) (i : Nat) (b : Bool) : (s.setTxCtrlBit n i b).reg.canstat = s.reg.canstat := by
  simp [State.setTxCtrlBit]
@[simp] theorem setTxCtrlBit_reg_canintf (s : State) (n : Fin Config.nTx) (i : Nat) (b : Bool) : (s.setTxCtrlBit n i b).reg.canintf = s.reg.canintf := by
  simp [State.setTxCtrlBit]
@[simp] theorem setTxCtrlBit_reg_eflg (s : State) (n : Fin Config.nTx) (i : Nat) (b : Bool) : (s.setTxCtrlBit n i b).reg.eflg = s.reg.eflg := by
  simp [State.setTxCtrlBit]
@[simp] theorem setTxCtrlBit_reg_rx (s : State) (n : Fin Config.nTx) (i : Nat) (b : Bool) : (s.setTxCtrlBit n i b).reg.rx = s.reg.rx := by
  simp [State.setTxCtrlBit]
@[simp] theorem setTxCtrlBit_irqPrev (s : State) (n : Fin Config.nTx) (i : Nat) (b : Bool) : (s.setTxCtrlBit n i b).irqPrev = s.irqPrev := by
  simp [State.setTxCtrlBit]
@[simp] theorem setTxCtrlBit_pin (s : State) (n : Fin Config.nTx) (i : Nat) (b : Bool) : (s.setTxCtrlBit n i b).pin = s.pin := by
  simp [State.setTxCtrlBit]
@[simp] theorem setTxCtrlBit_out (s : State) (n : Fin Config.nTx) (i : Nat) (b : Bool) : (s.setTxCtrlBit n i b).out = s.out := by
  simp [State.setTxCtrlBit]

@[simp] theorem doSend_reg_bfpctrl (n : Fin Config.nTx) (s : State) : (doSend n s).reg.bfpctrl = s.reg.bfpctrl := by
  unfold doSend
  split
  · rfl
  · dsimp only
    split <;> simp
@[simp] theorem doSend_reg_txrtsctrl (n : Fin Config.nTx) (s : State) : (doSend n s).reg.txrtsctrl = s.reg.txrtsctrl := by
  unfold doSend
  split
  · rfl
  · dsimp only
    split <;> simp
@[simp] theorem doSend_reg_tecReg (n : Fin Config.nTx) (s : State) : (doSend n s).reg.tecReg = s.reg.tecReg := by
  unfold doSend
  split
  · rfl
  · dsimp only
    split <;> simp
@[simp] theorem doSend_reg_recReg (n : Fin Config.nTx) (s : State) : (doSend n s).reg.recReg = s.reg.recReg := by
  unfold doSend
  split
  · rfl
  · dsimp only
    split <;> simp
@[simp] theorem doSend_reg_cnf1 (n : Fin Config.nTx) (s : State) : (doSend n s).reg.cnf1 = s.reg.cnf1 := by
  unfold doSend
  split
  · rfl
  · dsimp only
    split <;> simp
@[simp] theorem doSend_reg_cnf2 (n : Fin Config.nTx) (s : State) : (doSend n s).reg.cnf2 = s.reg.cnf2 := by
  unfold doSend
  split
  · rfl
  · dsimp only
    split <;> simp
@[simp] theorem doSend_reg_cnf3 (n : Fin Config.nTx) (s : State) : (doSend n s).reg.cnf3 = s.reg.cnf3 := by
  unfold doSend
  split
  · rfl
  · dsimp only
    split <;> simp
@[simp] theorem doSend_reg_caninte (n : Fin Config.nTx) (s : State) : (doSend n s).reg.caninte = s.reg.caninte := by
  unfold doSend
  split
  · rfl
  · dsimp only
    split <;> simp
@[simp] theorem doSend_reg_filters (n : Fin Config.nTx) (s : State) : (doSend n s).reg.filters = s.reg.filters := by
  unfold doSend
  split
  · rfl
  · dsimp only
    split <;> simp
@[simp] theorem doSend_reg_masks (n : Fin Config.nTx) (s : State) : (doSend n s).reg.masks = s.reg.masks := by
  unfold doSend
  split
  · rfl
  · dsimp only
    split <;> simp
@[simp] theorem doSend_reg_canctrl (n : Fin Config.nTx) (s : State) : (doSend n s).reg.canctrl = s.reg.canctrl := by
  unfold doSend
  split
  · rfl
  · dsimp only
    split <;> simp
@[simp] theorem doSend_spi (n : Fin Config.nTx) (s : State) : (doSend n s).spi = s.spi := by
  unfold doSend
  split
  · rfl
  · dsimp only
    split <;> simp
@[simp] theorem doSend_cs (n : Fin Config.nTx) (s : State) : (doSend n s).cs = s.cs := by
  unfold doSend
  split
  · rfl
  · dsimp only
    split <;> simp
@[simp] theorem doSend_pending (n : Fin Config.nTx) (s : State) : (doSend n s).pending = s.pending := by
  unfold doSend
  split
  · rfl
  · dsimp only
    split <;> simp
@[simp] theorem doSend_out_miso (n : Fin Config.nTx) (s : State) : (doSend n s).out.miso = s.out.miso := by
  unfold doSend
  split
  · rfl
  · dsimp only
    split <;> simp
@[simp] theorem doSend_out_accepted (n : Fin Config.nTx) (s : State) : (doSend n s).out.accepted = s.out.accepted := by
  unfold doSend
  split
  · rfl
  · dsimp only
    split <;> simp
@[simp] theorem doSend_out_log (n : Fin Config.nTx) (s : State) : (doSend n s).out.log = s.out.log := by
  unfold doSend
  split
  · rfl
  · dsimp only
    split <;> simp
@[simp] theorem doSend_mode (n : Fin Config.nTx) (s : State) : (doSend n s).mode = s.mode := by
  unfold doSend
  split
  · rfl
  · dsimp only
    split <;> simp
@[simp] theorem doSend_reqMode (n : Fin Config.nTx) (s : State) : (doSend n s).reqMode = s.reqMode := by
  unfold doSend
  split
  · rfl
  · dsimp only
    split <;> simp
@[simp] theorem doSend_abat (n : Fin Config.nTx) (s : State) : (doSend n s).abat = s.abat := by
  unfold doSend
  split
  · rfl
  · dsimp only
    split <;> simp

@[simp] theorem trySend_reg_bfpctrl (n : Fin Config.nTx) (s : State) : (trySend n s).reg.bfpctrl = s.reg.bfpctrl := by
  unfold trySend
  split <;> simp
@[simp] theorem trySend_reg_txrtsctrl (n : Fin Config.nTx) (s : State) : (trySend n s).reg.txrtsctrl = s.reg.txrtsctrl := by
  unfold trySend
  split <;> simp
@[simp] theorem trySend_reg_tecReg (n : Fin Config.nTx) (s : State) : (trySend n s).reg.tecReg = s.reg.tecReg := by
  unfold trySend
  split <;> simp
@[simp] theorem trySend_reg_recReg (n : Fin Config.nTx) (s : State) : (trySend n s).reg.recReg = s.reg.recReg := by
  unfold trySend
  split <;> simp
@[simp] theorem trySend_reg_cnf1 (n : Fin Config.nTx) (s : State) : (trySend n s).reg.cnf1 = s.reg.cnf1 := by
  unfold trySend
  split <;> simp
@[simp] theorem trySend_reg_cnf2 (n : Fin Config.nTx) (s : State) : (trySend n s).reg.cnf2 = s.reg.cnf2 := by
  unfold trySend
  split <;> simp
@[simp] theorem trySend_reg_cnf3 (n : Fin Config.nTx) (s : State) : (trySend n s).reg.cnf3 = s.reg.cnf3 := by
  unfold trySend
  split <;> simp
@[simp] theorem trySend_reg_caninte (n : Fin Config.nTx) (s : State) : (trySend n s).reg.caninte = s.reg.caninte := by
  unfold trySend
  split <;> simp
@[simp] theorem trySend_reg_filters (n : Fin Config.nTx) (s : State) : (trySend n s).reg.filters = s.reg.filters := by
  unfold trySend
  split <;> simp
@[simp] theorem trySend_reg_masks (n : Fin Config.nTx) (s : State) : (trySend n s).reg.masks = s.reg.masks := by
  unfold trySend
  split <;> simp
@[simp] theorem trySend_reg_canctrl (n : Fin Config.nTx) (s : State) : (trySend n s).reg.canctrl = s.reg.canctrl := by
  unfold trySend
  split <;> simp
@[simp] theorem trySend_spi (n : Fin Config.nTx) (s : State) : (trySend n s).spi = s.spi := by
  unfold trySend
  split <;> simp
@[simp] theorem trySend_cs (n : Fin Config.nTx) (s : State) : (trySend n s).cs = s.cs := by
  unfold trySend
  split <;> simp
@[simp] theorem trySend_pending (n : Fin Config.nTx) (s : State) : (trySend n s).pending = s.pending := by
  unfold trySend
  split <;> simp
@[simp] theorem trySend_out_miso (n : Fin Config.nTx) (s : State) : (trySend n s).out.miso = s.out.miso := by
  unfold trySend
  split <;> simp
@[simp] theorem trySend_out_accepted (n : Fin Config.nTx) (s : State) : (trySend n s).out.accepted = s.out.accepted := by
  unfold trySend
  split <;> simp
@[simp] theorem trySend_out_log (n : Fin Config.nTx) (s : State) : (trySend n s).out.log = s.out.log := by
  unfold trySend
  split <;> simp
@[simp] theorem trySend_mode (n : Fin Config.nTx) (s : State) : (trySend n s).mode = s.mode := by
  unfold trySend
  split <;> simp
@[simp] theorem trySend_reqMode (n : Fin Config.nTx) (s : State) : (trySend n s).reqMode = s.reqMode := by
  unfold trySend
  split <;> simp
@[simp] theorem trySend_abat (n : Fin Config.nTx) (s : State) : (trySend n s).abat = s.abat := by
  unfold trySend
  split <;> simp

@[simp] theorem requestOne_reg_bfpctrl (s : State) (n : Fin Config.nTx) : (requestOne s n).reg.bfpctrl = s.reg.bfpctrl := by
  simp [requestOne]
@[simp] theorem requestOne_reg_txrtsctrl (s : State) (n : Fin Config.nTx) : (requestOne s n).reg.txrtsctrl = s.reg.txrtsctrl := by
  simp [requestOne]
@[simp] theorem requestOne_reg_tecReg (s : State) (n : Fin Config.nTx) : (requestOne s n).reg.tecReg = s.reg.tecReg := by
  simp [requestOne]
@[simp] theorem requestOne_reg_recReg (s : State) (n : Fin Config.nTx) : (requestOne s n).reg.recReg = s.reg.recReg := by
  simp [requestOne]
@[simp] theorem requestOne_reg_cnf1 (s : State) (n : Fin Config.nTx) : (requestOne s n).reg.cnf1 = s.reg.cnf1 := by
  simp [requestOne]
@[simp] theorem requestOne_reg_cnf2 (s : State) (n : Fin Config.nTx) : (requestOne s n).reg.cnf2 = s.reg.cnf2 := by
  simp [requestOne]
@[simp] theorem requestOne_reg_cnf3 (s : State) (n : Fin Config.nTx) : (requestOne s n).reg.cnf3 = s.reg.cnf3 := by
  simp [requestOne]
@[simp] theorem requestOne_reg_caninte (s : State) (n : Fin Config.nTx) : (requestOne s n).reg.caninte = s.reg.caninte := by
  simp [requestOne]
@[simp] theorem requestOne_reg_filters (s : State) (n : Fin Config.nTx) : (requestOne s n).reg.filters = s.reg.filters := by
  simp [requestOne]
@[simp] theorem requestOne_reg_masks (s : State) (n : Fin Config.nTx) : (requestOne s n).reg.masks = s.reg.masks := by
  simp [requestOne]
@[simp] theorem requestOne_reg_canctrl (s : State) (n : Fin Config.nTx) : (requestOne s n).reg.canctrl = s.reg.canctrl := by
  simp [requestOne]
@[simp] theorem requestOne_spi (s : State) (n : Fin Config.nTx) : (requestOne s n).spi = s.spi := by
  simp [requestOne]
@[simp] theorem requestOne_cs (s : State) (n : Fin Config.nTx) : (requestOne s n).cs = s.cs := by
  simp [requestOne]
@[simp] theorem requestOne_pending (s : State) (n : Fin Config.nTx) : (requestOne s n).pending = s.pending := by
  simp [requestOne]
@[simp] theorem requestOne_out_miso (s : State) (n : Fin Config.nTx) : (requestOne s n).out.miso = s.out.miso := by
  simp [requestOne]
@[simp] theorem requestOne_out_accepted (s : State) (n : Fin Config.nTx) : (requestOne s n).out.accepted = s.out.accepted := by
  simp [requestOne]
@[simp] theorem requestOne_out_log (s : State) (n : Fin Config.nTx) : (requestOne s n).out.log = s.out.log := by
  simp [requestOne]
@[simp] theorem requestOne_mode (s : State) (n : Fin Config.nTx) : (requestOne s n).mode = s.mode := by
  simp [requestOne]
@[simp] theorem requestOne_reqMode (s : State) (n : Fin Config.nTx) : (requestOne s n).reqMode = s.reqMode := by
  simp [requestOne]
@[simp] theorem requestOne_abat (s : State) (n : Fin Config.nTx) : (requestOne s n).abat = s.abat := by
  simp [requestOne]

@[simp] theorem requestToSend_reg_bfpctrl (m : BitVec 3) (s : State) : (requestToSend m s).reg.bfpctrl = s.reg.bfpctrl := by
  unfold requestToSend
  split
  · rfl
  · exact foldl_keeps (fun t => t.reg.bfpctrl) requestOne (fun t a => requestOne_reg_bfpctrl t a) _ _
@[simp] theorem requestToSend_reg_txrtsctrl (m : BitVec 3) (s : State) : (requestToSend m s).reg.txrtsctrl = s.reg.txrtsctrl := by
  unfold requestToSend
  split
  · rfl
  · exact foldl_keeps (fun t => t.reg.txrtsctrl) requestOne (fun t a => requestOne_reg_txrtsctrl t a) _ _
@[simp] theorem requestToSend_reg_tecReg (m : BitVec 3) (s : State) : (requestToSend m s).reg.tecReg = s.reg.tecReg := by
  unfold requestToSend
  split
  · rfl
  · exact foldl_keeps (fun t => t.reg.tecReg) requestOne (fun t a => requestOne_reg_tecReg t a) _ _
@[simp] theorem requestToSend_reg_recReg (m : BitVec 3) (s : State) : (requestToSend m s).reg.recReg = s.reg.recReg := by
  unfold requestToSend
  split
  · rfl
  · exact foldl_keeps (fun t => t.reg.recReg) requestOne (fun t a => requestOne_reg_recReg t a) _ _
@[simp] theorem requestToSend_reg_cnf1 (m : BitVec 3) (s : State) : (requestToSend m s).reg.cnf1 = s.reg.cnf1 := by
  unfold requestToSend
  split
  · rfl
  · exact foldl_keeps (fun t => t.reg.cnf1) requestOne (fun t a => requestOne_reg_cnf1 t a) _ _
@[simp] theorem requestToSend_reg_cnf2 (m : BitVec 3) (s : State) : (requestToSend m s).reg.cnf2 = s.reg.cnf2 := by
  unfold requestToSend
  split
  · rfl
  · exact foldl_keeps (fun t => t.reg.cnf2) requestOne (fun t a => requestOne_reg_cnf2 t a) _ _
@[simp] theorem requestToSend_reg_cnf3 (m : BitVec 3) (s : State) : (requestToSend m s).reg.cnf3 = s.reg.cnf3 := by
  unfold requestToSend
  split
  · rfl
  · exact foldl_keeps (fun t => t.reg.cnf3) requestOne (fun t a => requestOne_reg_cnf3 t a) _ _
@[simp] theorem requestToSend_reg_caninte (m : BitVec 3) (s : State) : (requestToSend m s).reg.caninte = s.reg.caninte := by
  unfold requestToSend
  split
  · rfl
  · exact foldl_keeps (fun t => t.reg.caninte) requestOne (fun t a => requestOne_reg_caninte t a) _ _
@[simp] theorem requestToSend_reg_filters (m : BitVec 3) (s : State) : (requestToSend m s).reg.filters = s.reg.filters := by
  unfold requestToSend
  split
  · rfl
  · exact foldl_keeps (fun t => t.reg.filters) requestOne (fun t a => requestOne_reg_filters t a) _ _
@[simp] theorem requestToSend_reg_masks (m : BitVec 3) (s : State) : (requestToSend m s).reg.masks = s.reg.masks := by
  unfold requestToSend
  split
  · rfl
  · exact foldl_keeps (fun t => t.reg.masks) requestOne (fun t a => requestOne_reg_masks t a) _ _
@[simp] theorem requestToSend_reg_canctrl (m : BitVec 3) (s : State) : (requestToSend m s).reg.canctrl = s.reg.canctrl := by
  unfold requestToSend
  split
  · rfl
  · exact foldl_keeps (fun t => t.reg.canctrl) requestOne (fun t a => requestOne_reg_canctrl t a) _ _
@[simp] theorem requestToSend_spi (m : BitVec 3) (s : State) : (requestToSend m s).spi = s.spi := by
  unfold requestToSend
  split
  · rfl
  · exact foldl_keeps (fun t => t.spi) requestOne (fun t a => requestOne_spi t a) _ _
@[simp] theorem requestToSend_cs (m : BitVec 3) (s : State) : (requestToSend m s).cs = s.cs := by
  unfold requestToSend
  split
  · rfl
  · exact foldl_keeps (fun t => t.cs) requestOne (fun t a => requestOne_cs t a) _ _
@[simp] theorem requestToSend_pending (m : BitVec 3) (s : State) : (requestToSend m s).pending = s.pending := by
  unfold requestToSend
  split
  · rfl
  · exact foldl_keeps (fun t => t.pending) requestOne (fun t a => requestOne_pending t a) _ _
@[simp] theorem requestToSend_out_miso (m : BitVec 3) (s : State) : (requestToSend m s).out.miso = s.out.miso := by
  unfold requestToSend
  split
  · rfl
  · exact foldl_keeps (fun t => t.out.miso) requestOne (fun t a => requestOne_out_miso t a) _ _
@[simp] theorem requestToSend_out_accepted (m : BitVec 3) (s : State) : (requestToSend m s).out.accepted = s.out.accepted := by
  unfold requestToSend
  split
  · rfl
  · exact foldl_keeps (fun t => t.out.accepted) requestOne (fun t a => requestOne_out_accepted t a) _ _
@[simp] theorem requestToSend_out_log (m : BitVec 3) (s : State) : (requestToSend m s).out.log = s.out.log := by
  unfold requestToSend
  split
  · rfl
  · exact foldl_keeps (fun t => t.out.log) requestOne (fun t a => requestOne_out_log t a) _ _
@[simp] theorem requestToSend_mode (m : BitVec 3) (s : State) : (requestToSend m s).mode = s.mode := by
  unfold requestToSend
  split
  · rfl
  · exact foldl_keeps (fun t => t.mode) requestOne (fun t a => requestOne_mode t a) _ _
@[simp] theorem requestToSend_reqMode (m : BitVec 3) (s : State) : (requestToSend m s).reqMode = s.reqMode := by
  unfold requestToSend
  split
  · rfl
  · exact foldl_keeps (fun t => t.reqMode) requestOne (fun t a => requestOne_reqMode t a) _ _
@[simp] theorem requestToSend_abat (m : BitVec 3) (s : State) : (requestToSend m s).abat = s.abat := by
  unfold requestToSend
  split
  · rfl
  · exact foldl_keeps (fun t => t.abat) requestOne (fun t a => requestOne_abat t a) _ _

@[simp] theorem abortOne_reg_bfpctrl (s : State) (n : Fin Config.nTx) : (abortOne s n).reg.bfpctrl = s.reg.bfpctrl := by
  unfold abortOne
  split <;> simp
@[simp] theorem abortOne_reg_txrtsctrl (s : State) (n : Fin Config.nTx) : (abortOne s n).reg.txrtsctrl = s.reg.txrtsctrl := by
  unfold abortOne
  split <;> simp
@[simp] theorem abortOne_reg_tecReg (s : State) (n : Fin Config.nTx) : (abortOne s n).reg.tecReg = s.reg.tecReg := by
  unfold abortOne
  split <;> simp
@[simp] theorem abortOne_reg_recReg (s : State) (n : Fin Config.nTx) : (abortOne s n).reg.recReg = s.reg.recReg := by
  unfold abortOne
  split <;> simp
@[simp] theorem abortOne_reg_cnf1 (s : State) (n : Fin Config.nTx) : (abortOne s n).reg.cnf1 = s.reg.cnf1 := by
  unfold abortOne
  split <;> simp
@[simp] theorem abortOne_reg_cnf2 (s : State) (n : Fin Config.nTx) : (abortOne s n).reg.cnf2 = s.reg.cnf2 := by
  unfold abortOne
  split <;> simp
@[simp] theorem abortOne_reg_cnf3 (s : State) (n : Fin Config.nTx) : (abortOne s n).reg.cnf3 = s.reg.cnf3 := by
  unfold abortOne
  split <;> simp
@[simp] theorem abortOne_reg_caninte (s : State) (n : Fin Config.nTx) : (abortOne s n).reg.caninte = s.reg.caninte := by
  unfold abortOne
  split <;> simp
@[simp] theorem abortOne_reg_filters (s : State) (n : Fin Config.nTx) : (abortOne s n).reg.filters = s.reg.filters := by
  unfold abortOne
  split <;> simp
@[simp] theorem abortOne_reg_masks (s : State) (n : Fin Config.nTx) : (abortOne s n).reg.masks = s.reg.masks := by
  unfold abortOne
  split <;> simp
@[simp] theorem abortOne_reg_canctrl (s : State) (n : Fin Config.nTx) : (abortOne s n).reg.canctrl = s.reg.canctrl := by
  unfold abortOne
  split <;> simp
@[simp] theorem abortOne_spi (s : State) (n : Fin Config.nTx) : (abortOne s n).spi = s.spi := by
  unfold abortOne
  split <;> simp
@[simp] theorem abortOne_cs (s : State) (n : Fin Config.nTx) : (abortOne s n).cs = s.cs := by
  unfold abortOne
  split <;> simp
@[simp] theorem abortOne_pending (s : State) (n : Fin Config.nTx) : (abortOne s n).pending = s.pending := by
  unfold abortOne
  split <;> simp
@[simp] theorem abortOne_out_miso (s : State) (n : Fin Config.nTx) : (abortOne s n).out.miso = s.out.miso := by
  unfold abortOne
  split <;> simp
@[simp] theorem abortOne_out_accepted (s : State) (n : Fin Config.nTx) : (abortOne s n).out.accepted = s.out.accepted := by
  unfold abortOne
  split <;> simp
@[simp] theorem abortOne_out_log (s : State) (n : Fin Config.nTx) : (abortOne s n).out.log = s.out.log := by
  unfold abortOne
  split <;> simp
@[simp] theorem abortOne_mode (s : State) (n : Fin Config.nTx) : (abortOne s n).mode = s.mode := by
  unfold abortOne
  split <;> simp
@[simp] theorem abortOne_reqMode (s : State) (n : Fin Config.nTx) : (abortOne s n).reqMode = s.reqMode := by
  unfold abortOne
  split <;> simp
@[simp] theorem abortOne_abat (s : State) (n : Fin Config.nTx) : (abortOne s n).abat = s.abat := by
  unfold abortOne
  split <;> simp
@[simp] theorem abortOne_reg_canstat (s : State) (n : Fin Config.nTx) : (abortOne s n).reg.canstat = s.reg.canstat := by
  unfold abortOne
  split <;> simp
@[simp] theorem abortOne_reg_canintf (s : State) (n : Fin Config.nTx) : (abortOne s n).reg.canintf = s.reg.canintf := by
  unfold abortOne
  split <;> simp
@[simp] theorem abortOne_reg_eflg (s : State) (n : Fin Config.nTx) : (abortOne s n).reg.eflg = s.reg.eflg := by
  unfold abortOne
  split <;> simp
@[simp] theorem abortOne_reg_rx (s : State) (n : Fin Config.nTx) : (abortOne s n).reg.rx = s.reg.rx := by
  unfold abortOne
  split <;> simp
@[simp] theorem abortOne_irqPrev (s : State) (n : Fin Config.nTx) : (abortOne s n).irqPrev = s.irqPrev := by
  unfold abortOne
  split <;> simp
@[simp] theorem abortOne_pin (s : State) (n : Fin Config.nTx) : (abortOne s n).pin = s.pin := by
  unfold abortOne
  split <;> simp
@[simp] theorem abortOne_out (s : State) (n : Fin Config.nTx) : (abortOne s n).out = s.out := by
  unfold abortOne
  split <;> simp

@[simp] theorem abortPending_reg_bfpctrl (s : State) : (abortPending s).reg.bfpctrl = s.reg.bfpctrl := by
  unfold abortPending
  split <;> simp
@[simp] theorem abortPending_reg_txrtsctrl (s : State) : (abortPending s).reg.txrtsctrl = s.reg.txrtsctrl := by
  unfold abortPending
  split <;> simp
@[simp] theorem abortPending_reg_tecReg (s : State) : (abortPending s).reg.tecReg = s.reg.tecReg := by
  unfold abortPending
  split <;> simp
@[simp] theorem abortPending_reg_recReg (s : State) : (abortPending s).reg.recReg = s.reg.recReg := by
  unfold abortPending
  split <;> simp
@[simp] theorem abortPending_reg_cnf1 (s : State) : (abortPending s).reg.cnf1 = s.reg.cnf1 := by
  unfold abortPending
  split <;> simp
@[simp] theorem abortPending_reg_cnf2 (s : State) : (abortPending s).reg.cnf2 = s.reg.cnf2 := by
  unfold abortPending
  split <;> simp
@[simp] theorem abortPending_reg_cnf3 (s : State) : (abortPending s).reg.cnf3 = s.reg.cnf3 := by
  unfold abortPending
  split <;> simp
@[simp] theorem abortPending_reg_caninte (s : State) : (abortPending s).reg.caninte = s.reg.caninte := by
  unfold abortPending
  split <;> simp
@[simp] theorem abortPending_reg_filters (s : State) : (abortPending s).reg.filters = s.reg.filters := by
  unfold abortPending
  split <;> simp
@[simp] theorem abortPending_reg_masks (s : State) : (abortPending s).reg.masks = s.reg.masks := by
  unfold abortPending
  split <;> simp
@[simp] theorem abortPending_reg_canctrl (s : State) : (abortPending s).reg.canctrl = s.reg.canctrl := by
  unfold abortPending
  split <;> simp
@[simp] theorem abortPending_spi (s : State) : (abortPending s).spi = s.spi := by
  unfold abortPending
  split <;> simp
@[simp] theorem abortPending_cs (s : State) : (abortPending s).cs = s.cs := by
  unfold abortPending
  split <;> simp
@[simp] theorem abortPending_pending (s : State) : (abortPending s).pending = s.pending := by
  unfold abortPending
  split <;> simp
@[simp] theorem abortPending_out_miso (s : State) : (abortPending s).out.miso = s.out.miso := by
  unfold abortPending
  split <;> simp
@[simp] theorem abortPending_out_accepted (s : State) : (abortPending s).out.accepted = s.out.accepted := by
  unfold abortPending
  split <;> simp
@[simp] theorem abortPending_out_log (s : State) : (abortPending s).out.log = s.out.log := by
  unfold abortPending
  split <;> simp
@[simp] theorem abortPending_mode (s : State) : (abortPending s).mode = s.mode := by
  unfold abortPending
  split <;> simp
@[simp] theorem abortPending_reqMode (s : State) : (abortPending s).reqMode = s.reqMode := by
  unfold abortPending
  split <;> simp
@[simp] theorem abortPending_abat (s : State) : (abortPending s).abat = s.abat := by
  unfold abortPending
  split <;> simp
@[simp] theorem abortPending_reg_canstat (s : State) : (abortPending s).reg.canstat = s.reg.canstat := by
  unfold abortPending
  split <;> simp
@[simp] theorem abortPending_reg_canintf (s : State) : (abortPending s).reg.canintf = s.reg.canintf := by
  unfold abortPending
  split <;> simp
@[simp] theorem abortPending_reg_eflg (s : State) : (abortPending s).reg.eflg = s.reg.eflg := by
  unfold abortPending
  split <;> simp
@[simp] theorem abortPending_reg_rx (s : State) : (abortPending s).reg.rx = s.reg.rx := by
  unfold abortPending
  split <;> simp
@[simp] theorem abortPending_irqPrev (s : State) : (abortPending s).irqPrev = s.irqPrev := by
  unfold abortPending
  split <;> simp
@[simp] theorem abortPending_pin (s : State) : (abortPending s).pin = s.pin := by
  unfold abortPending
  split <;> simp
@[simp] theorem abortPending_out (s : State) : (abortPending s).out = s.out := by
  unfold abortPending
  split <;> simp

@[simp] theorem snapRequest_reg_bfpctrl (s : State) : (snapRequest s).reg.bfpctrl = s.reg.bfpctrl := by
  unfold snapRequest
  split <;> simp
@[simp] theorem snapRequest_reg_txrtsctrl (s : State) : (snapRequest s).reg.txrtsctrl = s.reg.txrtsctrl := by
  unfold snapRequest
  split <;> simp
@[simp] theorem snapRequest_reg_tecReg (s : State) : (snapRequest s).reg.tecReg = s.reg.tecReg := by
  unfold snapRequest
  split <;> simp
@[simp] theorem snapRequest_reg_recReg (s : State) : (snapRequest s).reg.recReg = s.reg.recReg := by
  unfold snapRequest
  split <;> simp
@[simp] theorem snapRequest_reg_cnf1 (s : State) : (snapRequest s).reg.cnf1 = s.reg.cnf1 := by
  unfold snapRequest
  split <;> simp
@[simp] theorem snapRequest_reg_cnf2 (s : State) : (snapRequest s).reg.cnf2 = s.reg.cnf2 := by
  unfold snapRequest
  split <;> simp
@[simp] theorem snapRequest_reg_cnf3 (s : State) : (snapRequest s).reg.cnf3 = s.reg.cnf3 := by
  unfold snapRequest
  split <;> simp
@[simp] theorem snapRequest_reg_caninte (s : State) : (snapRequest s).reg.caninte = s.reg.caninte := by
  unfold snapRequest
  split <;> simp
@[simp] theorem snapRequest_reg_filters (s : State) : (snapRequest s).reg.filters = s.reg.filters := by
  unfold snapRequest
  split <;> simp
@[simp] theorem snapRequest_reg_masks (s : State) : (snapRequest s).reg.masks = s.reg.masks := by
  unfold snapRequest
  split <;> simp
@[simp] theorem snapRequest_spi (s : State) : (snapRequest s).spi = s.spi := by
  unfold snapRequest
  split <;> simp
@[simp] theorem snapRequest_cs (s : State) : (snapRequest s).cs = s.cs := by
  unfold snapRequest
  split <;> simp
@[simp] theorem snapRequest_pending (s : State) : (snapRequest s).pending = s.pending := by
  unfold snapRequest
  split <;> simp
@[simp] theorem snapRequest_out_miso (s : State) : (snapRequest s).out.miso = s.out.miso := by
  unfold snapRequest
  split <;> simp
@[simp] theorem snapRequest_out_accepted (s : State) : (snapRequest s).out.accepted = s.out.accepted := by
  unfold snapRequest
  split <;> simp
@[simp] theorem snapRequest_out_log (s : State) : (snapRequest s).out.log = s.out.log := by
  unfold snapRequest
  split <;> simp
@[simp] theorem snapRequest_mode (s : State) : (snapRequest s).mode = s.mode := by
  unfold snapRequest
  split <;> simp
@[simp] theorem snapRequest_reg_canstat (s : State) : (snapRequest s).reg.canstat = s.reg.canstat := by
  unfold snapRequest
  split <;> simp
@[simp] theorem snapRequest_reg_canintf (s : State) : (snapRequest s).reg.canintf = s.reg.canintf := by
  unfold snapRequest
  split <;> simp
@[simp] theorem snapRequest_reg_eflg (s : State) : (snapRequest s).reg.eflg = s.reg.eflg := by
  unfold snapRequest
  split <;> simp
@[simp] theorem snapRequest_reg_rx (s : State) : (snapRequest s).reg.rx = s.reg.rx := by
  unfold snapRequest
  split <;> simp
@[simp] theorem snapRequest_reg_tx (s : State) : (snapRequest s).reg.tx = s.reg.tx := by
  unfold snapRequest
  split <;> simp
@[simp] theorem snapRequest_irqPrev (s : State) : (snapRequest s).irqPrev = s.irqPrev := by
  unfold snapRequest
  split <;> simp
@[simp] theorem snapRequest_pin (s : State) : (snapRequest s).pin = s.pin := by
  unfold snapRequest
  split <;> simp
@[simp] theorem snapRequest_out (s : State) : (snapRequest s).out = s.out := by
  unfold snapRequest
  split <;> simp

@[simp] theorem commitMode_reg_bfpctrl (w : Bool) (s : State) : (commitMode w s).reg.bfpctrl = s.reg.bfpctrl := by
  unfold commitMode
  split
  · dsimp only
    simp
  · rfl
@[simp] theorem commitMode_reg_txrtsctrl (w : Bool) (s : State) : (commitMode w s).reg.txrtsctrl = s.reg.txrtsctrl := by
  unfold commitMode
  split
  · dsimp only
    simp
  · rfl
@[simp] theorem commitMode_reg_tecReg (w : Bool) (s : State) : (commitMode w s).reg.tecReg = s.reg.tecReg := by
  unfold commitMode
  split
  · dsimp only
    simp
  · rfl
@[simp] theorem commitMode_reg_recReg (w : Bool) (s : State) : (commitMode w s).reg.recReg = s.reg.recReg := by
  unfold commitMode
  split
  · dsimp only
    simp
  · rfl
@[simp] theorem commitMode_reg_cnf1 (w : Bool) (s : State) : (commitMode w s).reg.cnf1 = s.reg.cnf1 := by
  unfold commitMode
  split
  · dsimp only
    simp
  · rfl
@[simp] theorem commitMode_reg_cnf2 (w : Bool) (s : State) : (commitMode w s).reg.cnf2 = s.reg.cnf2 := by
  unfold commitMode
  split
  · dsimp only
    simp
  · rfl
@[simp] theorem commitMode_reg_cnf3 (w : Bool) (s : State) : (commitMode w s).reg.cnf3 = s.reg.cnf3 := by
  unfold commitMode
  split
  · dsimp only
    simp
  · rfl
@[simp] theorem commitMode_reg_caninte (w : Bool) (s : State) : (commitMode w s).reg.caninte = s.reg.caninte := by
  unfold commitMode
  split
  · dsimp only
    simp
  · rfl
@[simp] theorem commitMode_reg_filters (w : Bool) (s : State) : (commitMode w s).reg.filters = s.reg.filters := by
  unfold commitMode
  split
  · dsimp only
    simp
  · rfl
@[simp] theorem commitMode_reg_masks (w : Bool) (s : State) : (commitMode w s).reg.masks = s.reg.masks := by
  unfold commitMode
  split
  · dsimp only
    simp
  · rfl
@[simp] theorem commitMode_spi (w : Bool) (s : State) : (commitMode w s).spi = s.spi := by
  unfold commitMode
  split
  · dsimp only
    simp
  · rfl
@[simp] theorem commitMode_cs (w : Bool) (s : State) : (commitMode w s).cs = s.cs := by
  unfold commitMode
  split
  · dsimp only
    simp
  · rfl
@[simp] theorem commitMode_pending (w : Bool) (s : State) : (commitMode w s).pending = s.pending := by
  unfold commitMode
  split
  · dsimp only
    simp
  · rfl
@[simp] theorem commitMode_out_miso (w : Bool) (s : State) : (commitMode w s).out.miso = s.out.miso := by
  unfold commitMode
  split
  · dsimp only
    simp
  · rfl
@[simp] theorem commitMode_out_accepted (w : Bool) (s : State) : (commitMode w s).out.accepted = s.out.accepted := by
  unfold commitMode
  split
  · dsimp only
    simp
  · rfl
@[simp] theorem commitMode_out_log (w : Bool) (s : State) : (commitMode w s).out.log = s.out.log := by
  unfold commitMode
  split
  · dsimp only
    simp
  · rfl
@[simp] theorem commitMode_reg_canctrl (w : Bool) (s : State) : (commitMode w s).reg.canctrl = s.reg.canctrl := by
  unfold commitMode
  split
  · dsimp only
    simp
  · rfl
@[simp] theorem commitMode_reqMode (w : Bool) (s : State) : (commitMode w s).reqMode = s.reqMode := by
  unfold commitMode
  split
  · dsimp only
    simp
  · rfl
@[simp] theorem commitMode_abat (w : Bool) (s : State) : (commitMode w s).abat = s.abat := by
  unfold commitMode
  split
  · dsimp only
    simp
  · rfl

@[simp] theorem forceListen_reg_bfpctrl (s : State) : (forceListen s).reg.bfpctrl = s.reg.bfpctrl := by
  unfold forceListen
  split <;> simp
@[simp] theorem forceListen_reg_txrtsctrl (s : State) : (forceListen s).reg.txrtsctrl = s.reg.txrtsctrl := by
  unfold forceListen
  split <;> simp
@[simp] theorem forceListen_reg_tecReg (s : State) : (forceListen s).reg.tecReg = s.reg.tecReg := by
  unfold forceListen
  split <;> simp
@[simp] theorem forceListen_reg_recReg (s : State) : (forceListen s).reg.recReg = s.reg.recReg := by
  unfold forceListen
  split <;> simp
@[simp] theorem forceListen_reg_cnf1 (s : State) : (forceListen s).reg.cnf1 = s.reg.cnf1 := by
  unfold forceListen
  split <;> simp
@[simp] theorem forceListen_reg_cnf2 (s : State) : (forceListen s).reg.cnf2 = s.reg.cnf2 := by
  unfold forceListen
  split <;> simp
@[simp] theorem forceListen_reg_cnf3 (s : State) : (forceListen s).reg.cnf3 = s.reg.cnf3 := by
  unfold forceListen
  split <;> simp
@[simp] theorem forceListen_reg_caninte (s : State) : (forceListen s).reg.caninte = s.reg.caninte := by
  unfold forceListen
  split <;> simp
@[simp] theorem forceListen_reg_filters (s : State) : (forceListen s).reg.filters = s.reg.filters := by
  unfold forceListen
  split <;> simp
@[simp] theorem forceListen_reg_masks (s : State) : (forceListen s).reg.masks = s.reg.masks := by
  unfold forceListen
  split <;> simp
@[simp] theorem forceListen_spi (s : State) : (forceListen s).spi = s.spi := by
  unfold forceListen
  split <;> simp
@[simp] theorem forceListen_cs (s : State) : (forceListen s).cs = s.cs := by
  unfold forceListen
  split <;> simp
@[simp] theorem forceListen_pending (s : State) : (forceListen s).pending = s.pending := by
  unfold forceListen
  split <;> simp
@[simp] theorem forceListen_out_miso (s : State) : (forceListen s).out.miso = s.out.miso := by
  unfold forceListen
  split <;> simp
@[simp] theorem forceListen_out_accepted (s : State) : (forceListen s).out.accepted = s.out.accepted := by
  unfold forceListen
  split <;> simp
@[simp] theorem forceListen_out_log (s : State) : (forceListen s).out.log = s.out.log := by
  unfold forceListen
  split <;> simp
@[simp] theorem forceListen_mode (s : State) : (forceListen s).mode = s.mode := by
  unfold forceListen
  split <;> simp
@[simp] theorem forceListen_reg_canstat (s : State) : (forceListen s).reg.canstat = s.reg.canstat := by
  unfold forceListen
  split <;> simp
@[simp] theorem forceListen_reg_canintf (s : State) : (forceListen s).reg.canintf = s.reg.canintf := by
  unfold forceListen
  split <;> simp
@[simp] theorem forceListen_reg_eflg (s : State) : (forceListen s).reg.eflg = s.reg.eflg := by
  unfold forceListen
  split <;> simp
@[simp] theorem forceListen_reg_rx (s : State) : (forceListen s).reg.rx = s.reg.rx := by
  unfold forceListen
  split <;> simp
@[simp] theorem forceListen_reg_tx (s : State) : (forceListen s).reg.tx = s.reg.tx := by
  unfold forceListen
  split <;> simp
@[simp] theorem forceListen_irqPrev (s : State) : (forceListen s).irqPrev = s.irqPrev := by
  unfold forceListen
  split <;> simp
@[simp] theorem forceListen_pin (s : State) : (forceListen s).pin = s.pin := by
  unfold forceListen
  split <;> simp
@[simp] theorem forceListen_out (s : State) : (forceListen s).out = s.out := by
  unfold forceListen
  split <;> simp

@[simp] theorem recomputeMode_reg_bfpctrl (w : Bool) (s : State) : (recomputeMode w s).reg.bfpctrl = s.reg.bfpctrl := by
  simp [recomputeMode]
@[simp] theorem recomputeMode_reg_txrtsctrl (w : Bool) (s : State) : (recomputeMode w s).reg.txrtsctrl = s.reg.txrtsctrl := by
  simp [recomputeMode]
@[simp] theorem recomputeMode_reg_tecReg (w : Bool) (s : State) : (recomputeMode w s).reg.tecReg = s.reg.tecReg := by
  simp [recomputeMode]
@[simp] theorem recomputeMode_reg_recReg (w : Bool) (s : State) : (recomputeMode w s).reg.recReg = s.reg.recReg := by
  simp [recomputeMode]
@[simp] theorem recomputeMode_reg_cnf1 (w : Bool) (s : State) : (recomputeMode w s).reg.cnf1 = s.reg.cnf1 := by
  simp [recomputeMode]
@[simp] theorem recomputeMode_reg_cnf2 (w : Bool) (s : State) : (recomputeMode w s).reg.cnf2 = s.reg.cnf2 := by
  simp [recomputeMode]
@[simp] theorem recomputeMode_reg_cnf3 (w : Bool) (s : State) : (recomputeMode w s).reg.cnf3 = s.reg.cnf3 := by
  simp [recomputeMode]
@[simp] theorem recomputeMode_reg_caninte (w : Bool) (s : State) : (recomputeMode w s).reg.caninte = s.reg.caninte := by
  simp [recomputeMode]
@[simp] theorem recomputeMode_reg_filters (w : Bool) (s : State) : (recomputeMode w s).reg.filters = s.reg.filters := by
  simp [recomputeMode]
@[simp] theorem recomputeMode_reg_masks (w : Bool) (s : State) : (recomputeMode w s).reg.masks = s.reg.masks := by
  simp [recomputeMode]
@[simp] theorem recomputeMode_spi (w : Bool) (s : State) : (recomputeMode w s).spi = s.spi := by
  simp [recomputeMode]
@[simp] theorem recomputeMode_cs (w : Bool) (s : State) : (recomputeMode w s).cs = s.cs := by
  simp [recomputeMode]
@[simp] theorem recomputeMode_pending (w : Bool) (s : State) : (recomputeMode w s).pending = s.pending := by
  simp [recomputeMode]
@[simp] theorem recomputeMode_out_miso (w : Bool) (s : State) : (recomputeMode w s).out.miso = s.out.miso := by
  simp [recomputeMode]
@[simp] theorem recomputeMode_out_accepted (w : Bool) (s : State) : (recomputeMode w s).out.accepted = s.out.accepted := by
  simp [recomputeMode]
@[simp] theorem recomputeMode_out_log (w : Bool) (s : State) : (recomputeMode w s).out.log = s.out.log := by
  simp [recomputeMode]

@[simp] theorem irqRaise_reg_bfpctrl (fl : Byte) (s : State) : (irqRaise fl s).reg.bfpctrl = s.reg.bfpctrl := by
  unfold irqRaise irqRaiseWith
  dsimp only
  split
  · simp
  · split <;> simp [recomputeRxnbf]
@[simp] theorem irqRaise_reg_txrtsctrl (fl : Byte) (s : State) : (irqRaise fl s).reg.txrtsctrl = s.reg.txrtsctrl := by
  unfold irqRaise irqRaiseWith
  dsimp only
  split
  · simp
  · split <;> simp [recomputeRxnbf]
@[simp] theorem irqRaise_reg_tecReg (fl : Byte) (s : State) : (irqRaise fl s).reg.tecReg = s.reg.tecReg := by
  unfold irqRaise irqRaiseWith
  dsimp only
  split
  · simp
  · split <;> simp [recomputeRxnbf]
@[simp] theorem irqRaise_reg_recReg (fl : Byte) (s : State) : (irqRaise fl s).reg.recReg = s.reg.recReg := by
  unfold irqRaise irqRaiseWith
  dsimp only
  split
  · simp
  · split <;> simp [recomputeRxnbf]
@[simp] theorem irqRaise_reg_cnf1 (fl : Byte) (s : State) : (irqRaise fl s).reg.cnf1 = s.reg.cnf1 := by
  unfold irqRaise irqRaiseWith
  dsimp only
  split
  · simp
  · split <;> simp [recomputeRxnbf]
@[simp] theorem irqRaise_reg_cnf2 (fl : Byte) (s : State) : (irqRaise fl s).reg.cnf2 = s.reg.cnf2 := by
  unfold irqRaise irqRaiseWith
  dsimp only
  split
  · simp
  · split <;> simp [recomputeRxnbf]
@[simp] theorem irqRaise_reg_cnf3 (fl : Byte) (s : State) : (irqRaise fl s).reg.cnf3 = s.reg.cnf3 := by
  unfold irqRaise irqRaiseWith
  dsimp only
  split
  · simp
  · split <;> simp [recomputeRxnbf]
@[simp] theorem irqRaise_reg_caninte (fl : Byte) (s : State) : (irqRaise fl s).reg.caninte = s.reg.caninte := by
  unfold irqRaise irqRaiseWith
  dsimp only
  split
  · simp
  · split <;> simp [recomputeRxnbf]
@[simp] theorem irqRaise_reg_filters (fl : Byte) (s : State) : (irqRaise fl s).reg.filters = s.reg.filters := by
  unfold irqRaise irqRaiseWith
  dsimp only
  split
  · simp
  · split <;> simp [recomputeRxnbf]
@[simp] theorem irqRaise_reg_masks (fl : Byte) (s : State) : (irqRaise fl s).reg.masks = s.reg.masks := by
  unfold irqRaise irqRaiseWith
  dsimp only
  split
  · simp
  · split <;> simp [recomputeRxnbf]
@[simp] theorem irqRaise_spi (fl : Byte) (s : State) : (irqRaise fl s).spi = s.spi := by
  unfold irqRaise irqRaiseWith
  dsimp only
  split
  · simp
  · split <;> simp [recomputeRxnbf]
@[simp] theorem irqRaise_cs (fl : Byte) (s : State) : (irqRaise fl s).cs = s.cs := by
  unfold irqRaise irqRaiseWith
  dsimp only
  split
  · simp
  · split <;> simp [recomputeRxnbf]
@[simp] theorem irqRaise_pending (fl : Byte) (s : State) : (irqRaise fl s).pending = s.pending := by
  unfold irqRaise irqRaiseWith
  dsimp only
  split
  · simp
  · split <;> simp [recomputeRxnbf]
@[simp] theorem irqRaise_out_miso (fl : Byte) (s : State) : (irqRaise fl s).out.miso = s.out.miso := by
  unfold irqRaise irqRaiseWith
  dsimp only
  split
  · simp
  · split <;> simp [recomputeRxnbf]
@[simp] theorem irqRaise_out_accepted (fl : Byte) (s : State) : (irqRaise fl s).out.accepted = s.out.accepted := by
  unfold irqRaise irqRaiseWith
  dsimp only
  split
  · simp
  · split <;> simp [recomputeRxnbf]
@[simp] theorem irqRaise_out_log (fl : Byte) (s : State) : (irqRaise fl s).out.log = s.out.log := by
  unfold irqRaise irqRaiseWith
  dsimp only
  split
  · simp
  · split <;> simp [recomputeRxnbf]

@[simp] theorem irqRecompute_reg_bfpctrl (s : State) : (irqRecompute s).reg.bfpctrl = s.reg.bfpctrl := by
  simp [irqRecompute]
@[simp] theorem irqRecompute_reg_txrtsctrl (s : State) : (irqRecompute s).reg.txrtsctrl = s.reg.txrtsctrl := by
  simp [irqRecompute]
@[simp] theorem irqRecompute_reg_tecReg (s : State) : (irqRecompute s).reg.tecReg = s.reg.tecReg := by
  simp [irqRecompute]
@[simp] theorem irqRecompute_reg_recReg (s : State) : (irqRecompute s).reg.recReg = s.reg.recReg := by
  simp [irqRecompute]
@[simp] theorem irqRecompute_reg_cnf1 (s : State) : (irqRecompute s).reg.cnf1 = s.reg.cnf1 := by
  simp [irqRecompute]
@[simp] theorem irqRecompute_reg_cnf2 (s : State) : (irqRecompute s).reg.cnf2 = s.reg.cnf2 := by
  simp [irqRecompute]
@[simp] theorem irqRecompute_reg_cnf3 (s : State) : (irqRecompute s).reg.cnf3 = s.reg.cnf3 := by
  simp [irqRecompute]
@[simp] theorem irqRecompute_reg_caninte (s : State) : (irqRecompute s).reg.caninte = s.reg.caninte := by
  simp [irqRecompute]
@[simp] theorem irqRecompute_reg_filters (s : State) : (irqRecompute s).reg.filters = s.reg.filters := by
  simp [irqRecompute]
@[simp] theorem irqRecompute_reg_masks (s : State) : (irqRecompute s).reg.masks = s.reg.masks := by
  simp [irqRecompute]
@[simp] theorem irqRecompute_spi (s : State) : (irqRecompute s).spi = s.spi := by
  simp [irqRecompute]
@[simp] theorem irqRecompute_cs (s : State) : (irqRecompute s).cs = s.cs := by
  simp [irqRecompute]
@[simp] theorem irqRecompute_pending (s : State) : (irqRecompute s).pending = s.pending := by
  simp [irqRecompute]
@[simp] theorem irqRecompute_out_miso (s : State) : (irqRecompute s).out.miso = s.out.miso := by
  simp [irqRecompute]
@[simp] theorem irqRecompute_out_accepted (s : State) : (irqRecompute s).out.accepted = s.out.accepted := by
  simp [irqRecompute]
@[simp] theorem irqRecompute_out_log (s : State) : (irqRecompute s).out.log = s.out.log := by
  simp [irqRecompute]

@[simp] theorem clearRxFlag_reg_bfpctrl (i : Fin Config.nRx) (s : State) : (clearRxFlag i s).reg.bfpctrl = s.reg.bfpctrl := by
  simp [clearRxFlag]
@[simp] theorem clearRxFlag_reg_txrtsctrl (i : Fin Config.nRx) (s : State) : (clearRxFlag i s).reg.txrtsctrl = s.reg.txrtsctrl := by
  simp [clearRxFlag]
@[simp] theorem clearRxFlag_reg_tecReg (i : Fin Config.nRx) (s : State) : (clearRxFlag i s).reg.tecReg = s.reg.tecReg := by
  simp [clearRxFlag]
@[simp] theorem clearRxFlag_reg_recReg (i : Fin Config.nRx) (s : State) : (clearRxFlag i s).reg.recReg = s.reg.recReg := by
  simp [clearRxFlag]
@[simp] theorem clearRxFlag_reg_cnf1 (i : Fin Config.nRx) (s : State) : (clearRxFlag i s).reg.cnf1 = s.reg.cnf1 := by
  simp [clearRxFlag]
@[simp] theorem clearRxFlag_reg_cnf2 (i : Fin Config.nRx) (s : State) : (clearRxFlag i s).reg.cnf2 = s.reg.cnf2 := by
  simp [clearRxFlag]
@[simp] theorem clearRxFlag_reg_cnf3 (i : Fin Config.nRx) (s : State) : (clearRxFlag i s).reg.cnf3 = s.reg.cnf3 := by
  simp [clearRxFlag]
@[simp] theorem clearRxFlag_reg_caninte (i : Fin Config.nRx) (s : State) : (clearRxFlag i s).reg.caninte = s.reg.caninte := by
  simp [clearRxFlag]
@[simp] theorem clearRxFlag_reg_filters (i : Fin Config.nRx) (s : State) : (clearRxFlag i s).reg.filters = s.reg.filters := by
  simp [clearRxFlag]
@[simp] theorem clearRxFlag_reg_masks (i : Fin Config.nRx) (s : State) : (clearRxFlag i s).reg.masks = s.reg.masks := by
  simp [clearRxFlag]
@[simp] theorem clearRxFlag_spi (i : Fin Config.nRx) (s : State) : (clearRxFlag i s).spi = s.spi := by
  simp [clearRxFlag]
@[simp] theorem clearRxFlag_cs (i : Fin Config.nRx) (s : State) : (clearRxFlag i s).cs = s.cs := by
  simp [clearRxFlag]
@[simp] theorem clearRxFlag_pending (i : Fin Config.nRx) (s : State) : (clearRxFlag i s).pending = s.pending := by
  simp [clearRxFlag]
@[simp] theorem clearRxFlag_out_miso (i : Fin Config.nRx) (s : State) : (clearRxFlag i s).out.miso = s.out.miso := by
  simp [clearRxFlag]
@[simp] theorem clearRxFlag_out_accepted (i : Fin Config.nRx) (s : State) : (clearRxFlag i s).out.accepted = s.out.accepted := by
  simp [clearRxFlag]
@[simp] theorem clearRxFlag_out_log (i : Fin Config.nRx) (s : State) : (clearRxFlag i s).out.log = s.out.log := by
  simp [clearRxFlag]

/-- Outside SLEEP the two forms of `irq_raise` are one (log 25): the wake-up test fails. -/
theorem irqRaise_of_not_sleep (fl : Byte) (s : State) (h : s.mode ≠ modeSleep) : irqRaise fl s = irqRaiseAwake fl s := by
  have h2 : modeField s.reg.canstat ≠ modeSleep := h
  unfold irqRaise irqRaiseAwake irqRaiseWith
  dsimp only
  split
  · rfl
  · simp [h2]

end Sys2Proof.Machine
end

