-- ==== Sys2Proof/Laws/Operations.lean ====
section
/-! SUPPORT. What the shared operations do, said once: reading and writing a slot, the write routine's frame, and
`irq_raise` where the chip is awake, and `do_send` in the two sending modes. -/

namespace Sys2Proof.Machine

open Sys2Proof

theorem IdRegs.get_set (r : IdRegs) (j k : IdByte) (v : Byte) :
    (r.set j v).get k = if k = j then v else r.get k := by
  cases j <;> cases k <;> rfl

theorem Buffer.get_set (t : Buffer) (b c : BufByte) (v : Byte) :
    (t.set b v).get c = if c = b then v else t.get c := by
  cases b <;> cases c <;> simp [Buffer.set, Buffer.get, IdRegs.get_set]
  rename_i i j
  by_cases h : j = i
  · subst h
    simp
  · have h2 : i.val ≠ j.val := fun e => h (Fin.ext e.symm)
    simp [h, h2]

theorem tx_getElem_set (v : Vector Buffer Config.nTx) (n m : Fin Config.nTx) (t : Buffer) :
    (v.set n t)[m] = if m = n then t else v[m] := by
  by_cases h : m = n
  · subst h
    simp
  · have h2 : n.val ≠ m.val := fun e => h (Fin.ext e.symm)
    simp [h, h2]

theorem rx_getElem_set (v : Vector Buffer Config.nRx) (n m : Fin Config.nRx) (t : Buffer) :
    (v.set n t)[m] = if m = n then t else v[m] := by
  by_cases h : m = n
  · subst h
    simp
  · have h2 : n.val ≠ m.val := fun e => h (Fin.ext e.symm)
    simp [h, h2]

theorem idRegs_getElem_set {k : Nat} (v : Vector IdRegs k) (n m : Fin k) (t : IdRegs) :
    (v.set n t)[m] = if m = n then t else v[m] := by
  by_cases h : m = n
  · subst h
    simp
  · have h2 : n.val ≠ m.val := fun e => h (Fin.ext e.symm)
    simp [h, h2]

/-- A slot holds what was last written to it, and keeps its byte when another slot is written. -/
theorem RegFile.get_set (r : RegFile) (sl sm : Slot) (v : Byte) :
    (r.set sl v).get sm = if sm = sl then v else r.get sm := by
  cases sl <;> cases sm <;>
    simp [RegFile.set, RegFile.get, tx_getElem_set, rx_getElem_set, idRegs_getElem_set, -Fin.getElem_fin]
  all_goals
    split
    · subst_vars
      simp [Buffer.get_set, IdRegs.get_set]
    · simp_all

/-- Writing back the byte a slot holds changes nothing. -/
theorem RegFile.set_get (r : RegFile) (sl : Slot) : r.set sl (r.get sl) = r := by
  have hid : ∀ (t : IdRegs) j, t.set j (t.get j) = t := by
    intro t j
    cases j <;> rfl
  have hb : ∀ (t : Buffer) b, t.set b (t.get b) = t := by
    intro t b
    cases b <;> simp [Buffer.set, Buffer.get, hid]
  cases sl <;> simp [RegFile.set, RegFile.get, hid, hb]

@[simp] theorem sideEffect_spi (sl : Slot) (s : State) : (sideEffect sl s).spi = s.spi := by
  cases sl <;> simp [sideEffect, recomputeRxnbf]
  case tx n b => cases b <;> simp [txCtrlWritten]; split <;> simp
  case rx n b => cases b <;> simp [mirrorBukt]; split <;> simp

@[simp] theorem sideEffect_cs (sl : Slot) (s : State) : (sideEffect sl s).cs = s.cs := by
  cases sl <;> simp [sideEffect, recomputeRxnbf]
  case tx n b => cases b <;> simp [txCtrlWritten]; split <;> simp
  case rx n b => cases b <;> simp [mirrorBukt]; split <;> simp

@[simp] theorem sideEffect_pending (sl : Slot) (s : State) : (sideEffect sl s).pending = s.pending := by
  cases sl <;> simp [sideEffect, recomputeRxnbf]
  case tx n b => cases b <;> simp [txCtrlWritten]; split <;> simp
  case rx n b => cases b <;> simp [mirrorBukt]; split <;> simp

@[simp] theorem update_spi (a : Addr) (v : Byte) (s : State) : (update a v s).spi = s.spi := by
  simp [update, maskedStore]

@[simp] theorem update_cs (a : Addr) (v : Byte) (s : State) : (update a v s).cs = s.cs := by
  simp [update, maskedStore]

@[simp] theorem update_pending (a : Addr) (v : Byte) (s : State) : (update a v s).pending = s.pending := by
  simp [update, maskedStore]

/-- A write to a slot without side effect is the masked store (R237). -/
theorem sideEffect_plain (sl : Slot) (s : State) (h : plainSlot sl = true) : sideEffect sl s = s := by
  cases sl <;> simp_all [sideEffect, plainSlot]
  case tx n b => cases b <;> simp_all
  case rx n b => cases b <;> simp_all

/-- The raw byte at an address after any raw store. -/
theorem raw_setSlot (s : State) (sl : Slot) (v : Byte) (a : Addr) :
    (s.setSlot sl v).raw a = if (resolve a).slot = sl then v else s.raw a := by
  simp [State.raw, State.setSlot, RegFile.get_set]

/-- The mode is a reading of canstat, so a masked store (mask 0x00 on canstat) keeps it. -/
theorem writeMask_canstat : ∀ a : Addr, (resolve a).slot = .canstat → (resolve a).writeMask = 0x00 := by
  decide +kernel

theorem wake_condition (a b : Byte) : (bit (a ^^^ b) 6 = true ∧ bit a 6 = true) ↔ (bit a 6 && !bit b 6) = true := by
  unfold bit
  rw [BitVec.getLsbD_xor]
  cases a.getLsbD 6 <;> cases b.getLsbD 6 <;> simp

/-- Everything `irq_raise` does where it wakes nothing (R341 to R343, R345). -/
theorem irqRaiseWith_noWake (w : State → State) (fl : Byte) (s : State)
    (h : wakes ((s.reg.canintf ||| fl) &&& s.reg.caninte) s = false) : irqRaiseWith w fl s = raised fl s := by
  unfold irqRaiseWith raised
  dsimp only
  by_cases h2 : (s.reg.canintf ||| fl) &&& s.reg.caninte = s.irqPrev
  · have e : (s.setCanintf (s.reg.canintf ||| fl)).reg.effective ^^^ (s.setCanintf (s.reg.canintf ||| fl)).irqPrev = 0x00 := by
      simp [State.setCanintf, RegFile.effective, h2]
    rw [if_pos h2, if_pos e]
    rfl
  · have e : ¬(s.setCanintf (s.reg.canintf ||| fl)).reg.effective ^^^ (s.setCanintf (s.reg.canintf ||| fl)).irqPrev =
        0x00 := by
      simpa [State.setCanintf, RegFile.effective, BitVec.xor_eq_zero_iff] using h2
    rw [if_neg h2, if_neg e, if_neg, h]
    · simp [recomputeRxnbf, State.setCanintf, State.setIrqPrev, State.setCanstat, State.setRxnbf, State.setIrqPin,
        RegFile.effective]
      exact ⟨decide_not, rfl, rfl⟩
    · rintro ⟨e1, e2, e3⟩
      have h3 := (wake_condition _ _).1 ⟨e1, e2⟩
      have h4 : s.mode = modeSleep := by simpa [State.mode] using e3
      have h5 : wakes ((s.reg.canintf ||| fl) &&& s.reg.caninte) s = true := by
        simpa [wakes, h4, State.setCanintf, RegFile.effective] using h3
      rw [h] at h5
      cases h5

theorem irqRaiseAwake_eq (fl : Byte) (s : State) (h : s.mode ≠ modeSleep) : irqRaiseAwake fl s = raised fl s :=
  irqRaiseWith_noWake _ _ _ (by simp [wakes, h])

/-- A sleeping chip whose WAKIF becomes effective runs the mode controller with the code already updated (R344), and
then drives the pins. -/
theorem irqRaise_wake (fl : Byte) (s : State) (h : wakes ((s.reg.canintf ||| fl) &&& s.reg.caninte) s = true) :
    ∃ eff t, eff = (s.reg.canintf ||| fl) &&& s.reg.caninte ∧
      t = recomputeMode true (((s.setCanintf (s.reg.canintf ||| fl)).setIrqPrev eff).setCanstat
        (setIcodField s.reg.canstat (icod eff))) ∧
      irqRaise fl s = (recomputeRxnbf 1 (recomputeRxnbf 0 t)).setIrqPin (decide (eff ≠ 0x00)) := by
  refine ⟨_, _, rfl, rfl, ?_⟩
  unfold irqRaise irqRaiseWith
  dsimp only
  simp only [wakes, Bool.and_eq_true, decide_eq_true_eq] at h
  have hb := (wake_condition ((s.reg.canintf ||| fl) &&& s.reg.caninte) s.irqPrev).2 (by simp [h])
  have e : ¬(s.setCanintf (s.reg.canintf ||| fl)).reg.effective ^^^ (s.setCanintf (s.reg.canintf ||| fl)).irqPrev =
      0x00 := by
    intro e
    have h2 : (s.reg.canintf ||| fl) &&& s.reg.caninte ^^^ s.irqPrev = 0x00 := by
      simpa [State.setCanintf, RegFile.effective] using e
    rw [h2] at hb
    simp [bit] at hb
  rw [if_neg e, if_pos]
  · rfl
  · refine ⟨hb.1, hb.2, ?_⟩
    simpa [State.mode] using h.1

/-- Awake, the receive path runs with the `irq_raise` that wakes nothing (R253). -/
theorem onFrame_of_not_sleep (f : Frame) (s : State) (h : s.mode ≠ modeSleep) :
    onFrame f s = onFrameWith irqRaiseAwake f s := by
  have hr : ∀ fl b t, irqRaise fl (s.setRx b t) = irqRaiseAwake fl (s.setRx b t) := fun fl b t =>
    irqRaise_of_not_sleep _ _ (by simpa [State.mode] using h)
  have he : ∀ fl v, irqRaise fl (s.setEflg v) = irqRaiseAwake fl (s.setEflg v) := fun fl v =>
    irqRaise_of_not_sleep _ _ (by simpa [State.mode] using h)
  unfold onFrame onFrameWith
  simp only [receiveWith, acceptFor0With, offerTo1With, dispatchWith, raiseConditionWith, hr, he, h, if_false]
  rfl

theorem busRx_spi (f : Frame) (s : State) : (busRx f s).spi = s.spi := by
  have h : (onFrame f s).2.spi = s.spi := by
    by_cases hm : s.mode = modeSleep
    · unfold onFrame onFrameWith
      split <;> simp
    · simp [onFrame_of_not_sleep f s hm]
  unfold busRx
  split <;> simp [h]

theorem busRx_cs (f : Frame) (s : State) : (busRx f s).cs = s.cs := by
  have h : (onFrame f s).2.cs = s.cs := by
    by_cases hm : s.mode = modeSleep
    · unfold onFrame onFrameWith
      split <;> simp
    · simp [onFrame_of_not_sleep f s hm]
  unfold busRx
  split <;> simp [h]

theorem busRx_pending (f : Frame) (s : State) : (busRx f s).pending = s.pending := by
  have h : (onFrame f s).2.pending = s.pending := by
    by_cases hm : s.mode = modeSleep
    · unfold onFrame onFrameWith
      split <;> simp
    · simp [onFrame_of_not_sleep f s hm]
  unfold busRx
  split <;> simp [h]

/-- Writing the interrupt code a canstat already holds changes nothing. -/
theorem setIcodField_self (v : Byte) : setIcodField v (icodField v) = v :=
  canstat_ext (by simp) (by simp) (bit_setIcodField _ _ _ (by simp)) (bit_setIcodField _ _ _ (by simp))

/-- The active mode plays no part in raising flags awake: only the interrupt code of canstat follows. -/
theorem raised_setCanstat_mode (fl : Byte) (s : State) (m : BitVec 3) (h : s.mode ≠ modeSleep) (hm : m ≠ modeSleep) :
    raised fl s = { raised fl (s.setCanstat (setModeField s.reg.canstat m)) with
      reg := { (raised fl (s.setCanstat (setModeField s.reg.canstat m))).reg with
        canstat := setIcodField s.reg.canstat
          (icodField (raised fl (s.setCanstat (setModeField s.reg.canstat m))).reg.canstat) } } := by
  have h1 : ∀ e, wakes e s = false := fun e => by simp [wakes, h]
  have h2 : ∀ e, wakes e (s.setCanstat (setModeField s.reg.canstat m)) = false := fun e => by
    simp [wakes, State.mode, State.setCanstat, hm]
  have h3 : (s.setCanstat (setModeField s.reg.canstat m)).reg = { s.reg with canstat := setModeField s.reg.canstat m } :=
    rfl
  unfold raised
  simp only [h1, h2, h3, State.setCanstat_irqPrev, State.setCanstat_spi, State.setCanstat_cs, State.setCanstat_pin,
    State.setCanstat_pending, State.setCanstat_out, Bool.false_eq_true, if_false]
  split
  · simp [setIcodField_self]
  · simp [rxnbfLevel, RegFile.rxFull]

/-- Raising flags after a change of RX buffers or eflg gives the same receive state in LISTEN as in the active mode. -/
theorem raised_seen_in_listen (fl : Byte) (s u : State) (hm : s.mode ≠ modeSleep)
    (hu : u = { s with reg := { s.reg with rx := u.reg.rx, eflg := u.reg.eflg } }) :
    raised fl u =
      s.withReceiveState (raised fl (u.setCanstat (setModeField s.reg.canstat modeListen))) := by
  have hc : u.reg.canstat = s.reg.canstat := by rw [hu]
  have h1 := raised_setCanstat_mode fl u modeListen (by simpa [State.mode, hc] using hm) (by decide)
  rw [hc] at h1
  rw [h1, hu]
  unfold raised
  dsimp only
  split <;> simp [State.withReceiveState, State.setCanstat]

/-- In LOOPBACK mode a clean frame is received as in LISTEN mode (R297). -/
theorem onFrame_loopback (f : Frame) (s : State) (hf : CleanFrame f) (hm : s.mode = modeLoopback) :
    (onFrameWith irqRaiseAwake f s).2 = receivedAsInListen f s := by
  have hms : s.mode ≠ modeSleep := by rw [hm]; decide
  have hl : (s.setCanstat (setModeField s.reg.canstat modeListen)).mode = modeListen := by
    simp [State.mode, State.setCanstat]
  have hls : (s.setCanstat (setModeField s.reg.canstat modeListen)).mode ≠ modeSleep := by rw [hl]; decide
  have hca : canAccept (s.setCanstat (setModeField s.reg.canstat modeListen)) = true := by
    simp only [canAccept, hl]; decide
  have hc : ∀ b, checkFilters f b (s.setCanstat (setModeField s.reg.canstat modeListen)).reg = checkFilters f b s.reg :=
    fun _ => rfl
  have ha : ∀ fl u, u.reg.canstat = s.reg.canstat → irqRaiseAwake fl u = raised fl u := fun fl u h =>
    irqRaiseAwake_eq _ _ (by simpa [State.mode, h] using hms)
  have hb : ∀ fl (u : State), irqRaiseAwake fl (u.setCanstat (setModeField s.reg.canstat modeListen)) =
      raised fl (u.setCanstat (setModeField s.reg.canstat modeListen)) := fun fl u =>
    irqRaiseAwake_eq _ _ (by simp only [State.mode, State.setCanstat, modeField_setModeField]; decide)
  have hrx : ∀ b (t : Buffer) fl, irqRaiseAwake fl (s.setRx b t) =
      s.withReceiveState (raised fl ((s.setRx b t).setCanstat (setModeField s.reg.canstat modeListen))) := fun b t fl =>
    (ha fl (s.setRx b t) rfl).trans (raised_seen_in_listen fl s (s.setRx b t) hms rfl)
  have heflg : ∀ w fl, irqRaiseAwake fl (s.setEflg w) =
      s.withReceiveState (raised fl ((s.setEflg w).setCanstat (setModeField s.reg.canstat modeListen))) := fun w fl =>
    (ha fl (s.setEflg w) rfl).trans (raised_seen_in_listen fl s (s.setEflg w) hms rfl)
  have hrx' : ∀ b (t : Buffer) fl, irqRaiseAwake fl ((s.setCanstat (setModeField s.reg.canstat modeListen)).setRx b t) =
      raised fl ((s.setRx b t).setCanstat (setModeField s.reg.canstat modeListen)) :=
    fun b t fl => hb fl (s.setRx b t)
  have heflg' : ∀ w fl, irqRaiseAwake fl ((s.setCanstat (setModeField s.reg.canstat modeListen)).setEflg w) =
      raised fl ((s.setEflg w).setCanstat (setModeField s.reg.canstat modeListen)) :=
    fun w fl => hb fl (s.setEflg w)
  have hnone : s = s.withReceiveState (s.setCanstat (setModeField s.reg.canstat modeListen)) := by
    simp [State.withReceiveState, State.setCanstat, setIcodField_self]
  unfold receivedAsInListen busRx
  rw [if_pos hca, onFrame_of_not_sleep _ _ hls]
  unfold onFrameWith receiveWith acceptFor0With offerTo1With dispatchWith raiseConditionWith
  simp only [hf.1, hf.2, hms, hls, if_false, Bool.false_eq_true, false_or, not_true_eq_false, ne_eq, hc]
  simp only [hrx, heflg, hrx', heflg']
  have hr0 : ∀ b, (s.setCanstat (setModeField s.reg.canstat modeListen)).reg.rxFull b = s.reg.rxFull b := fun _ => rfl
  have hr1 : (s.setCanstat (setModeField s.reg.canstat modeListen)).reg.rx = s.reg.rx := rfl
  have hr2 : (s.setCanstat (setModeField s.reg.canstat modeListen)).reg.eflg = s.reg.eflg := rfl
  simp only [hr0, hr1, hr2]
  cases h0 : checkFilters f 0 s.reg <;> cases h1 : checkFilters f 1 s.reg <;> dsimp only <;>
    repeat' (first | rfl | split)
  all_goals exact hnone

/-- Everything `do_send` does in NORMAL mode (R295, R298, R299). -/
theorem doSend_normal (n : Fin Config.nTx) (s : State) (hm : s.mode = modeNormal) :
    doSend n s = raised (flagTx n) ((s.busSend (frameOf s.reg.tx[n])).setTxCtrlBit n txreqBit false) := by
  unfold doSend
  rw [if_neg (by simp [hm])]
  simp only [hm, if_true]
  refine irqRaiseAwake_eq _ _ ?_
  have h : ((s.busSend (frameOf s.reg.tx[n])).setTxCtrlBit n txreqBit false).mode = s.mode := rfl
  rw [h, hm]
  decide

/-- Everything `do_send` does in LOOPBACK mode (R295, R297, R299). -/
theorem doSend_loopback (n : Fin Config.nTx) (s : State) (hm : s.mode = modeLoopback) :
    doSend n s =
      raised (flagTx n) ((receivedAsInListen (frameOf s.reg.tx[n]) s).setTxCtrlBit n txreqBit false) := by
  have hn : s.mode ≠ modeNormal := by rw [hm]; decide
  unfold doSend
  rw [if_neg (by simp [hm])]
  simp only [hn, if_false]
  rw [onFrame_loopback _ _ ⟨rfl, rfl⟩ hm]
  refine irqRaiseAwake_eq _ _ ?_
  have h : ((receivedAsInListen (frameOf s.reg.tx[n]) s).setTxCtrlBit n txreqBit false).mode = s.mode := by
    simp [State.mode, State.setTxCtrlBit, State.setTx, receivedAsInListen, State.withReceiveState]
  rw [h, hm]
  decide

end Sys2Proof.Machine
end

