-- ==== Sys2Proof/Laws/PerInstr.lean ====
section
/-! SUPPORT. The family EncodeRow: the byte of a well-formed command belongs to the row of the opcode table that its
constructor stands for. One lemma per constructor of Instr. -/

namespace Sys2Proof.Laws.EncodeRow

open Sys2Proof

/-- The first opcode-table row that the encoded byte of a well-formed command fits is the command's row. -/
def Statement (i : Instr) : Prop :=
  i.wellFormed = true → opcodeTable.findIdx (fun r => encodeByte i &&& r.mask == r.pattern) = i.row

theorem reset : Statement .reset := by
  unfold Statement
  decide

theorem read : Statement .read := by
  unfold Statement
  decide

theorem write : Statement .write := by
  unfold Statement
  decide

theorem bitmod : Statement .bitmod := by
  unfold Statement
  decide

theorem rdrxb (n m : BitVec 1) : Statement (.rdrxb n m) := by
  unfold Statement
  revert n m
  decide

theorem ldtxbLow (bc : BitVec 2) : Statement (.ldtxbLow bc) := by
  unfold Statement
  revert bc
  decide

theorem ldtxbHigh (c : BitVec 1) : Statement (.ldtxbHigh c) := by
  unfold Statement
  revert c
  decide

theorem rts (nnn : BitVec 3) : Statement (.rts nnn) := by
  unfold Statement
  revert nnn
  decide

theorem rdstat : Statement .rdstat := by
  unfold Statement
  decide

theorem rxstat : Statement .rxstat := by
  unfold Statement
  decide

theorem invalid (b : Byte) : Statement (.invalid b) := by
  unfold Statement
  revert b
  decide +kernel

end Sys2Proof.Laws.EncodeRow
end

