-- ==== Sys2Proof/Tests/Slice0.lean ====
section
/-! SUPPORT. Tests: the WellFormed smoke, decoding of words written out from the spec, one or two single steps for each
command, and for every statement with hypotheses a state that meets them. Expected values are those of spec/95 (the
number is named) or are read off the rule named. -/

namespace Sys2Proof.Tests.Slice0

open Sys2Proof Sys2Proof.Machine

/-! ### Helpers -/

/-- The reset chip, selected, with bytes to come. -/
def selected (bs : List Byte) : State :=
  { State.reset with cs := .asserted, pending := bs.map Event.spiByte }

/-- The selected chip in protocol state `st` with the cursor at `a`, the byte `b` to come. -/
def inState (st : SpiState) (a : Addr) (b : Byte) : State :=
  { selected [b] with spi := { Session.reset with state := st, address := a } }

/-- `s` with active and requested mode `m` and ABAT clear. -/
def inMode (m : BitVec 3) (s : State) : State :=
  (s.setCanstat (setModeField s.reg.canstat m)).setCanctrl (setModeField 0x00 m)

/-- A sleeping chip as the mode controller leaves it: the request is LISTEN (R314). -/
def asleep (s : State) : State :=
  (s.setCanstat (setModeField s.reg.canstat modeSleep)).setCanctrl (setModeField 0x00 modeListen)

/-- What `f` sees of the next state, if there is one. -/
def after {α : Type} (o : Host.Outcome State Fault Refusal) (f : State → α) : Option α :=
  match o with
  | .next t => some (f t)
  | .fault _ => none
  | .refused _ => none

/-- A standard frame without payload. -/
def stdFrame (id : BitVec 29) : Frame :=
  { id := id, ext := false, rtr := false, err := false, flags := 0, len := 0, data := Vector.replicate 8 0x00 }

/-- A standard frame with one payload byte. -/
def stdFrame1 (id : BitVec 29) (d : Byte) : Frame :=
  { stdFrame id with len := 1, data := (Vector.replicate 8 0x00).set 0 d }

/-- An extended frame without payload. -/
def extFrame (id : BitVec 29) : Frame := { stdFrame id with ext := true }

/-- `s` with frame `f` arriving next. -/
def receiving (s : State) (f : Frame) : State := { s with pending := [.busRx f] }

/-- `s` with the control byte of TX buffer `n` made `c`. -/
def withTxCtrl (s : State) (n : Fin Config.nTx) (c : Byte) : State := s.setTx n { s.reg.tx[n] with ctrl := c }

/-- `s` with the control byte of RX buffer `n` made `c`. -/
def withRxCtrl (s : State) (n : Fin Config.nRx) (c : Byte) : State := s.setRx n { s.reg.rx[n] with ctrl := c }

/-! ### WellFormed refuses what the encoding cannot write -/

theorem test_illformed_invalid_reset : (Instr.invalid 0xC0).wellFormed = false := by decide
theorem test_illformed_invalid_read : (Instr.invalid 0x03).wellFormed = false := by decide
theorem test_illformed_invalid_rts_empty : (Instr.invalid 0x80).wellFormed = false := by decide
theorem test_wellformed_invalid_46 : (Instr.invalid 0x46).wellFormed = true := by decide

/-! ### Decoding, every constructor, from bytes written out from R123 to R125 -/

theorem test_decode_reset : decode [0b11000000] = .ok (.reset, []) := by rfl
theorem test_decode_read : decode [0b00000011, 0x0E, 0x00] = .ok (.read, [0x0E, 0x00]) := by rfl
theorem test_decode_write : decode [0b00000010] = .ok (.write, []) := by rfl
theorem test_decode_bitmod : decode [0b00000101] = .ok (.bitmod, []) := by rfl
theorem test_decode_rdrxb_00 : decode [0b10010000] = .ok (.rdrxb 0 0, []) := by rfl
theorem test_decode_rdrxb_01 : decode [0b10010010] = .ok (.rdrxb 0 1, []) := by rfl
theorem test_decode_rdrxb_10 : decode [0b10010100] = .ok (.rdrxb 1 0, []) := by rfl
theorem test_decode_rdrxb_11 : decode [0b10010110] = .ok (.rdrxb 1 1, []) := by rfl
theorem test_decode_ldtxb_3 : decode [0b01000011] = .ok (.ldtxbLow 0b11, []) := by rfl
theorem test_decode_ldtxb_4 : decode [0b01000100] = .ok (.ldtxbHigh 0, []) := by rfl
theorem test_decode_ldtxb_5 : decode [0b01000101] = .ok (.ldtxbHigh 1, []) := by rfl
theorem test_decode_ldtxb_6_is_invalid : decode [0b01000110] = .ok (.invalid 0x46, []) := by rfl
theorem test_decode_rts_4 : decode [0b10000100] = .ok (.rts 0b100, []) := by rfl
theorem test_decode_rts_past_is_invalid : decode [0b10001000] = .ok (.invalid 0x88, []) := by rfl
theorem test_decode_rdstat : decode [0b10100000] = .ok (.rdstat, []) := by rfl
theorem test_decode_rxstat : decode [0b10110000] = .ok (.rxstat, []) := by rfl
theorem test_decode_91_is_invalid : decode [0b10010001] = .ok (.invalid 0x91, []) := by rfl
theorem test_decode_nothing : decode [] = .error .noCommandByte := by rfl
theorem test_table_word_rts : decodeTableWord 8 0x85 = some (.rts 0b101) := by decide
theorem test_placed_word_runs : after (step (State.reset.withFetchWord 8 0x90)) (fun t => t.spi.address) = some 0x61 := by
  decide

/-! ### Single steps -/

/-- 95 §2.3 #1: RESET from a dirty state. -/
theorem test_reset_command :
    after (step { selected [0xC0] with reg := { RegFile.reset with caninte := 0xFF, canintf := 0x23 } })
      (fun t => (t.reg.caninte, t.reg.canstat, t.reg.canctrl, t.spi.state)) = some (0x00, 0x80, 0x87, .idle) := by decide

/-- 95 §2.1 #1: READ answers canstat, then canctrl. -/
theorem test_read_command : after (step (selected [0x03])) (fun t => (t.spi.state, t.spi.addrThenWrite)) =
    some (.awaitingAddress, false) := by decide
theorem test_read_data_canctrl : after (step (inState .readingData 0x7F 0x00)) (fun t => (t.out.miso, t.spi.address)) =
    some (some 0x87, 0x00) := by decide

/-- 95 §2.1 #5: WRITE to address byte 0x8F reaches canctrl and enters NORMAL. -/
theorem test_write_command : after (step (selected [0x02])) (fun t => (t.spi.state, t.spi.addrThenWrite)) =
    some (.awaitingAddress, true) := by decide
theorem test_write_canctrl : after (step (inState .writingData 0x0F 0x00)) (fun t => (t.reg.canstat, t.reg.canctrl)) =
    some (0x00, 0x00) := by decide

/-- 95 §2.1 #9 and S1: BIT MODIFY of canintf 0xA5 under mask 0x0F with data 0x00. -/
theorem test_bitmod_command : after (step (selected [0x05])) (fun t => t.spi.state) = some .awaitingModifyAddress := by
  decide
theorem test_bitmod_canintf :
    after (step (((inState .modifyingData 0x2C 0x00).setCanintf 0xA5).setModifyMask 0x0F)) (fun t => t.reg.canintf) =
      some 0xA0 := by decide

/-- 95 §2.2 #3: 0x94 starts at rx[1].sidh and remembers buffer 1. -/
theorem test_rdrxb_command : after (step (selected [0x94])) (fun t => (t.spi.address, t.spi.rxMemo, t.spi.state)) =
    some (0x71, some 1, .readingData) := by decide
/-- 95 §2.2 #1: the end of the transaction clears the flag, the code and the pin. -/
theorem test_rdrxb_end :
    after (csDeassert { inMode modeNormal (selected []) with
        spi := { Session.reset with rxMemo := some 0 }, irqPrev := 0x01
        reg := { RegFile.reset with canintf := 0x01, caninte := 0x03, canstat := 0x0C, canctrl := 0x00 }
        pin := { Pins.reset with irq := true } } |> Host.Outcome.next)
      (fun t => (t.reg.canintf, t.reg.canstat, t.pin.irq)) = some (0x00, 0x00, false) := by decide

/-- 95 §2.2 #8: start addresses 0x46 and 0x56. -/
theorem test_ldtxb_low : after (step (selected [0x43])) (fun t => (t.spi.address, t.spi.state)) =
    some (0x46, .writingData) := by decide
theorem test_ldtxb_high : after (step (selected [0x45])) (fun t => (t.spi.address, t.spi.state)) =
    some (0x56, .writingData) := by decide

/-- 95 §2.3 #5: RTS in CONFIG mode queues buffer 0 only. -/
theorem test_rts_queues : after (step (selected [0x81]))
    (fun t => (t.reg.tx[0].ctrl, t.reg.tx[1].ctrl, t.reg.canintf)) = some (0x08, 0x00, 0x00) := by decide
/-- 95 S8: priorities 1, 3, 3 go out as buffers 1, 2, 0; told apart here by their data length 1, 2, 3. -/
theorem test_rts_order :
    after (step { inMode modeNormal (selected [0x87]) with
        reg := { RegFile.reset with
          canstat := 0x00, canctrl := 0x00
          tx := #v[{ Buffer.reset with ctrl := 0x01, dlc := 1 }, { Buffer.reset with ctrl := 0x03, dlc := 2 },
            { Buffer.reset with ctrl := 0x03, dlc := 3 }] } })
      (fun t => (t.out.busSent.map (fun f => f.len.toNat), t.reg.canintf)) = some ([2, 3, 1], 0x1C) := by decide

/-- 95 §2.3 #6: queued buffers 0 and 2 show as 0x44. -/
theorem test_rdstat_command : after (step (selected [0xA0])) (fun t => t.spi.state) = some .readingStatus := by decide
theorem test_rdstat_byte : after (step (withTxCtrl (withTxCtrl (inState .readingStatus 0 0x00) 0 0x08) 2 0x08))
    (fun t => t.out.miso) = some (some 0x44) := by decide

/-- 95 §2.3 #12: a remote frame in buffer 0 answers 0x48. -/
theorem test_rxstat_command : after (step (selected [0xB0])) (fun t => t.spi.state) = some .readingRxStatus := by decide
theorem test_rxstat_byte : after (step ((withRxCtrl (inState .readingRxStatus 0 0x00) 0 0x0E).setCanintf 0x01))
    (fun t => t.out.miso) = some (some 0x48) := by decide

/-- 95 §2.3 #2: an invalid command byte is logged. -/
theorem test_invalid_command : after (step (selected [0xFF])) (fun t => (t.spi.state, t.out.miso, t.out.log)) =
    some (.idle, some 0xFF, [.invalidCommand]) := by decide
/-- 95 §2.3 #19. -/
theorem test_unselected_byte_refused :
    after (step { selected [0x03] with cs := .deasserted }) (fun t => t.out.miso) = none := by decide

/-- 45_can_transmit.md R296, its two examples: a remote extended frame with DLC 15, a standard frame of three bytes. -/
theorem test_frame_of_ext :
    (let f := frameOf { ctrl := 0x00, id := ⟨0x91, 0xAB, 0xFF, 0xFF⟩, dlc := 0x4F, data := #v[1, 2, 3, 4, 5, 6, 7, 8] }
     (f.ext, f.id, f.rtr, f.len, f.data)) = (true, 0x1237FFFF, true, 8, #v[1, 2, 3, 4, 5, 6, 7, 8]) := by decide
theorem test_frame_of_std :
    (let f := frameOf { ctrl := 0x00, id := ⟨0x24, 0x60, 0x12, 0x34⟩, dlc := 0x03, data := #v[10, 11, 12, 13, 0, 0, 0, 0] }
     (f.ext, f.id, f.rtr, f.len, f.data)) = (false, 0x123, false, 3, #v[10, 11, 12, 0, 0, 0, 0, 0]) := by decide

/-- 95 S5, third line but one: an empty standard frame takes both bytes from the filter. -/
theorem test_filter_defaults :
    matchesFilter (stdFrame 0x21) ⟨0xFF, 0xE3, 0xFF, 0xFF⟩ ⟨0x04, 0x20, 0xAA, 0xBB⟩ = true := by decide
theorem test_filter_first_byte_differs :
    matchesFilter (stdFrame1 0x21 0xAB) ⟨0xFF, 0xE3, 0xFF, 0xFF⟩ ⟨0x04, 0x20, 0xAA, 0xBB⟩ = false := by decide
/-- 95 S6: second frame overflows buffer 0. -/
theorem test_overflow :
    after (step (receiving ((inMode modeNormal State.reset).setCanintf 0x01) (stdFrame 0x11)))
      (fun t => (t.reg.eflg, t.reg.canintf, t.out.accepted)) = some (0x40, 0x21, some true) := by decide
/-- 95 S9: the frame wakes the chip into LISTEN with code 2. -/
theorem test_wake_up :
    after (step (receiving { asleep State.reset with
        reg := { RegFile.reset with canstat := 0x20, canctrl := 0x60, caninte := 0x40 } } (stdFrame1 5 1)))
      (fun t => (t.reg.canintf, t.reg.canstat, t.pin.irq)) = some (0x40, 0x64, true) := by decide

/-! ### Witnesses: the hypotheses of each statement are met -/

/-- A sleeping chip with a queued request, WAKIF enabled, and all interrupt state at rest. -/
def sleepingChip : State :=
  let s := withTxCtrl (asleep State.reset) 1 0x08
  { s with reg := { s.reg with caninte := 0x40 } }

/-- NORMAL mode with RX0IF pending and enabled, code, `irq_prev` and pin in step; buffer 2 still queued (R300). -/
def busyChip : State :=
  let s := withTxCtrl (inMode modeNormal State.reset) 2 0x08
  { s with
    reg := { s.reg with caninte := 0x3F, canintf := 0x01, canstat := 0x0C }
    irqPrev := 0x01
    pin := { s.pin with irq := true } }

theorem witness_DecodeAndEncodeAreInverse :
    (Instr.rdrxb 1 1).wellFormed = true ∧ (Instr.ldtxbHigh 1).wellFormed = true ∧
      (Instr.invalid 0xFF).wellFormed = true := by decide

theorem witness_StepRunsDecodedCommand :
    ClocksByte (selected [0x87]) .awaitingInstruction 0x87 [] ∧ (Instr.rts 0b111).wellFormed = true := by decide
theorem witness_StepRunsDecodedCommand_decode : decode [0x87] = .ok (.rts 0b111, []) := by rfl

theorem witness_StepRefusesExactlyUnselectedBytes :
    State.reset.pending = [] ∧ State.reset.cs = .deasserted ∧
      ({ State.reset with pending := [.spiByte 0x03] } : State).pending = .spiByte 0x03 :: [] := by decide

theorem witness_SelectedMasterIsNeverRefused :
    selectsBeforeClocking .deasserted
      [.busRx (stdFrame 1), .csAssert, .spiByte 0xC0, .csDeassert, .deviceReset, .csAssert, .spiByte 0x03] = true := by
  decide

theorem witness_AddressAndMaskBytes :
    ClocksByte (inState .awaitingAddress 0 0xFF) .awaitingAddress 0xFF [] ∧
    ClocksByte (inState .awaitingModifyAddress 0 0x80) .awaitingModifyAddress 0x80 [] ∧
    ClocksByte (inState .awaitingModifyMask 0x2C 0x0F) .awaitingModifyMask 0x0F [] := by decide

theorem witness_ReadingDataByte :
    ClocksByte (inState .readingData 0x7F 0x00) .readingData 0x00 [] ∧
    ClocksByte (inMode modeNormal (inState .readingData 0x00 0x00)) .readingData 0x00 [] := by decide

theorem witness_WritingDataByte : ClocksByte (inState .writingData 0x7F 0xFF) .writingData 0xFF [] := by decide

theorem witness_ModifyingDataByte :
    ClocksByte (inState .modifyingData 0x2D 0xFF) .modifyingData 0xFF [] ∧
    plainSlot (resolve (inState .modifyingData 0x2D 0xFF).spi.address).slot = true ∧
    ClocksByte (inState .modifyingData 0x31 0x55) .modifyingData 0x55 [] ∧
    plainSlot (resolve (inState .modifyingData 0x31 0x55).spi.address).slot = true := by decide

theorem witness_IdleIsTerminal :
    ClocksByte (inState .idle 0 0x03) .idle 0x03 [] ∧
    after (exec (.invalid 0x00) (selected [])) (fun t => t.spi.state) = some .idle ∧
    after (step (selected [0x80])) (fun t => t.spi.state) = some .idle ∧
    after (step { inState .idle 0 0x00 with cs := .deasserted, pending := [.csAssert] }) (fun t => t.spi.state) =
      some .awaitingInstruction := by decide

theorem witness_StatusBytesAnswered :
    ClocksByte (inState .readingStatus 0 0xFF) .readingStatus 0xFF [] ∧
    ClocksByte (inState .readingRxStatus 0 0xFF) .readingRxStatus 0xFF [] := by decide

theorem witness_StatusByteLayouts :
    bit ({ RegFile.reset with canintf := 0x03 } : RegFile).canintf 0 = true ∧
    (bit ({ RegFile.reset with canintf := 0x02 } : RegFile).canintf 0 = false ∧
      bit ({ RegFile.reset with canintf := 0x02 } : RegFile).canintf 1 = true) ∧
    (bit RegFile.reset.canintf 0 = false ∧ bit RegFile.reset.canintf 1 = false) := by decide

theorem witness_LoadTxBufferCommand :
    encodeByte (.ldtxbLow 0) = 0x40 ∧ encodeByte (.ldtxbLow 3) = 0x43 ∧ encodeByte (.ldtxbHigh 0) = 0x44 ∧
      encodeByte (.ldtxbHigh 1) = 0x45 := by decide

theorem witness_InvalidCommand :
    0x46 ∉ validCommandBytes ∧ 0xFF ∉ validCommandBytes ∧ (selected [0x03]).cs = .asserted ∧
    (selected [0x03]).pending = .spiByte 0x03 :: [] ∧
    after (exec (.invalid 0x46) (selected [0x03])) (fun t => t.out.log) = some [.invalidCommand] := by decide

theorem witness_RtsWhileAborting : (State.reset.setCanctrl 0x97).abat = true := by decide

theorem witness_RtsQueuesOutsideSendingModes :
    (State.reset.abat = false ∧ State.reset.mode ≠ modeNormal ∧ State.reset.mode ≠ modeLoopback) ∧
    (sleepingChip.abat = false ∧ sleepingChip.mode ≠ modeNormal ∧ sleepingChip.mode ≠ modeLoopback) := by decide

theorem witness_RtsInNormalModeSends :
    busyChip.abat = false ∧ busyChip.mode = modeNormal ∧ InterruptsCurrent busyChip := by decide

theorem witness_RtsInLoopbackModeReceives :
    (inMode modeLoopback State.reset).abat = false ∧ (inMode modeLoopback State.reset).mode = modeLoopback := by decide
/-- R301 (f), with BUKT = 0: of three frames the one of TX buffer 1, of the highest priority, is stored, the others
overflow. -/
theorem test_loopback_order :
    after (exec (.rts 0b111) { inMode modeLoopback State.reset with
        reg := { RegFile.reset with
          canstat := 0x40, canctrl := 0x40
          tx := #v[{ Buffer.reset with dlc := 1 }, { Buffer.reset with ctrl := 0x03, dlc := 2 },
            { Buffer.reset with dlc := 3 }] } })
      (fun t => (t.reg.rx[0].dlc, t.reg.canintf, t.reg.eflg, t.out.busSent.length)) =
      some (0x02, 0x3D, 0x40, 0) := by decide

theorem witness_SendOrderByPriority : State.reset.abat = false := by decide

theorem witness_MaskedStoreLaw :
    Slot.eflg ≠ (resolve 0x0C).slot ∧ (resolve 0x0E).writeMask = 0x00 ∧ (resolve 0x7D).writeMask = 0x00 := by decide

theorem witness_PlainRegisterWrites :
    (plainSlot (resolve 0x2D).slot = true ∧ (resolve 0x2D).configOnlyRead = false) ∧
    (plainSlot (resolve 0x00).slot = true ∧ State.reset.mode = modeConfig) ∧
    (resolve 0x01).slot ≠ (resolve 0x00).slot := by decide

theorem witness_TxControlWriteUnderAbat :
    (withTxCtrl (State.reset.setCanctrl 0x97) 0 0x40).abat = true := by decide

theorem witness_TxControlWriteWithoutAbat :
    (State.reset.abat = false ∧ State.reset.mode ≠ modeNormal ∧ State.reset.mode ≠ modeLoopback) ∧
    (busyChip.abat = false ∧ busyChip.mode = modeNormal) ∧
    ((inMode modeLoopback State.reset).abat = false ∧ (inMode modeLoopback State.reset).mode = modeLoopback) ∧
    bit (setBit (mergeMasked 0x00 0x0B (resolve (txCtrlAddress 2)).writeMask) abtfBit false) txreqBit = true ∧
    bit (setBit (mergeMasked 0x08 0x03 (resolve (txCtrlAddress 2)).writeMask) abtfBit false) txreqBit = false := by
  decide

theorem witness_InterruptRegisterWrites :
    SleepRequestsListen sleepingChip ∧ RequestsConsistent sleepingChip ∧ sleepingChip.mode = modeSleep := by decide

theorem witness_InterruptRaiseLaw :
    (SleepRequestsListen sleepingChip ∧ RequestsConsistent sleepingChip ∧ wakes 0x40 sleepingChip = true) ∧
    (SleepRequestsListen busyChip ∧ RequestsConsistent busyChip) := by decide

theorem witness_ChipSelectEdges :
    (({ State.reset with pending := [.csAssert] } : State).cs = .deasserted ∧ (selected []).cs = .asserted) ∧
    ((selected []).cs = .asserted ∧ (selected []).spi.rxMemo = none) := by decide

theorem witness_EndOfReadRxBufferFreesBuffer :
    (∃ s : State, s.pending = [.csDeassert] ∧ s.cs = .asserted ∧ s.spi.rxMemo = some 1 ∧ SleepRequestsListen s ∧
      RequestsConsistent s) :=
  ⟨{ busyChip with pending := [.csDeassert], cs := .asserted, spi := { Session.reset with rxMemo := some 1 } },
    by decide⟩

theorem witness_FilterMatchIsMaskedComparison :
    (extFrame 0x1FFFFFFF).ext = true ∧ (stdFrame1 0x7FF 0xFF).ext = false ∧ (stdFrame1 0x7FF 0xFF).rtr = false ∧
      1 ≤ (stdFrame1 0x7FF 0xFF).len.toNat ∧
      2 ≤ ({ stdFrame 0x7FF with len := 2 } : Frame).len.toNat := by decide

theorem witness_ZeroMaskAndFullMask : bit (⟨0x04, 0x20, 0xAA, 0xBB⟩ : IdRegs).sidl 3 = false := by decide

theorem witness_AcceptedFrameIsStored :
    CleanFrame (stdFrame 0) ∧ ReceivingMode (inMode modeNormal State.reset) ∧ ReceivingMode (inMode modeListen State.reset) ∧
    StoredIn (stdFrame 0) (inMode modeNormal State.reset).reg 0 0 ∧
    StoredIn (stdFrame 0) (withRxCtrl ((inMode modeListen State.reset).setCanintf 0x01) 0 0x06).reg 1 0 ∧
    StoredIn (stdFrame 0) (withRxCtrl (inMode modeNormal State.reset) 0 0x20).reg 1 2 := by decide

theorem witness_OverflowDropsFrame :
    OverflowsIn (stdFrame 0) ((inMode modeNormal State.reset).setCanintf 0x01).reg 0 ∧
    OverflowsIn (stdFrame 0) (withRxCtrl ((inMode modeNormal State.reset).setCanintf 0x03) 0 0x06).reg 0 ∧
    OverflowsIn (stdFrame 0) (withRxCtrl ((inMode modeNormal State.reset).setCanintf 0x02) 0 0x40).reg 1 := by decide

theorem witness_RefusedAndUnmatchedFrames :
    (¬CleanFrame { stdFrame 0 with err := true } ∧ ¬CleanFrame { stdFrame 0 with flags := 0x80 }) ∧
    (State.reset.mode = modeConfig ∧ (inMode modeLoopback State.reset).mode = modeLoopback) ∧
    (CleanFrame (extFrame 0) ∧ ReceivingMode (inMode modeNormal State.reset) ∧
      ∀ (b : Fin Config.nRx) (k : Fin Config.nFilter),
        checkFilters (extFrame 0) b (inMode modeNormal State.reset).reg ≠ .matched k) := by decide

theorem witness_SleepingChipFrame :
    CleanFrame (stdFrame 5) ∧ sleepingChip.mode = modeSleep ∧ SleepRequestsListen sleepingChip ∧
    RequestsConsistent sleepingChip ∧ bit sleepingChip.reg.caninte 6 = true ∧ bit sleepingChip.irqPrev 6 = false := by
  decide

theorem witness_StoredFrameReadsBack :
    ((extFrame 0x1ABCDEF).ext = true ∧ (extFrame 0x1ABCDEF).len.toNat ≤ 8 ∧ CleanFrame (extFrame 0x1ABCDEF) ∧
      ∀ j : Fin 8, (extFrame 0x1ABCDEF).len.toNat ≤ j.val → (extFrame 0x1ABCDEF).data[j] = 0x00) ∧
    (stdFrame 0x7FF).ext = false := by decide

theorem witness_BusRxTouchesOnlyReceiveState :
    SleepRequestsListen (receiving sleepingChip (stdFrame 5)) ∧ RequestsConsistent (receiving sleepingChip (stdFrame 5)) ∧
    (receiving sleepingChip (stdFrame 5)).pending = .busRx (stdFrame 5) :: [] ∧
    after (step (receiving sleepingChip (stdFrame 5))) (fun t => t.mode) = some modeListen := by decide

theorem witness_ModeTransitionTable :
    (State.reset.mode.toNat ≤ 4 ∧ sleepingChip.mode.toNat ≤ 4) ∧
    (bit 0x67 abatBit = false ∧ (update (canctrlAddress 7) 0x67 (withTxCtrl State.reset 1 0x48)).mode = modeListen ∧
      (update (canctrlAddress 7) 0x67 (withTxCtrl State.reset 1 0x48)).reg.tx[1].ctrl = 0x08) ∧
    (update (canctrlAddress 0) 0x00 sleepingChip).mode = sleepingChip.mode := by decide

theorem witness_OnlyWakeOrResetLeavesSleep :
    SleepRequestsListen sleepingChip ∧ sleepingChip.mode = modeSleep ∧
    after (step (receiving sleepingChip (stdFrame 5))) (fun t => decide (t.mode ≠ modeSleep)) = some true ∧
    after (step { sleepingChip with pending := [.deviceReset] }) (fun t => decide (t.mode ≠ modeSleep)) = some true := by
  decide

theorem witness_AbatAbortsBuffers0And1 : bit 0x97 abatBit = true ∧ bit 0x10 abatBit = true := by decide

theorem witness_ModeChangeServesBuffers0And1 :
    bit 0x07 abatBit = false ∧ modeField 0x07 = modeNormal ∧ State.reset.mode ≠ modeNormal ∧
    State.reset.mode ≠ modeSleep ∧ InterruptsCurrent (withTxCtrl (withTxCtrl State.reset 0 0x08) 1 0x0B) ∧
    bit 0x47 abatBit = false ∧ modeField 0x47 = modeLoopback ∧ State.reset.mode ≠ modeLoopback := by decide

theorem witness_ResetIsOneState :
    ({ busyChip with pending := [.deviceReset, .csAssert] } : State).pending = .deviceReset :: [.csAssert] := by decide

theorem witness_LegalKeptByStep :
    Legal sleepingChip ∧ Legal { busyChip with pending := [.busRx (stdFrame 0)] } ∧
    after (step { busyChip with pending := [.busRx (stdFrame 0)] }) (fun t => t.reg.eflg) = some 0x40 := by decide

theorem witness_ReservedBitsKeptByStep :
    ReservedBitsClear busyChip ∧ BuktMirrored (withRxCtrl busyChip 0 0x06) ∧
    after (step (receiving busyChip (stdFrame 0))) (fun t => t.reg.canintf) = some 0x21 := by decide

theorem witness_StorageBitsNonInterference :
    ({ inMode modeNormal (inState .readingData 0x2A 0x00) with
      reg := { RegFile.reset with canstat := 0x00, cnf1 := 0xAA } } : State).mode ≠ modeConfig := by decide

theorem witness_BufferFullPinsHoldTheirLevel :
    InterruptsCurrent (inState .writingData 0x0C 0x2C) ∧
    after (step (inState .writingData 0x0C 0x2C)) (fun t => (t.pin.rx0bf, t.pin.rx1bf)) = some (false, true) := by decide

theorem witness_WriteThenReadTransaction :
    State.reset.cs = .deasserted ∧ plainSlot (resolve 0x7D).slot = true ∧ plainSlot (resolve 0x2D).slot = true := by
  decide

end Sys2Proof.Tests.Slice0
end

section
/-! SUPPORT. Invariants of the chip. `ChipInvariant` says which operations a property must survive to be kept by every
step, and `ChipInvariant.step_keeps` is that claim, proved once. `RegisterInvariant` does the same for a property of the
registers alone, one named register update at a time. -/

namespace Sys2Proof.Machine

open Sys2Proof

/-! ### What every step keeps -/

/-- A property of registers, `irq_prev` and pins that holds at reset and that each shared operation keeps. -/
structure ChipInvariant (P : State → Prop) : Prop where
  congr : ∀ {s t : State}, P s → t.reg = s.reg → t.irqPrev = s.irqPrev → t.pin = s.pin → P t
  reset : P State.reset
  update_keeps : ∀ (a : Addr) (v : Byte) {s : State}, P s → P (update a v s)
  requestToSend_keeps : ∀ (m : BitVec 3) {s : State}, P s → P (requestToSend m s)
  clearRxFlag_keeps : ∀ (i : Fin Config.nRx) {s : State}, P s → P (clearRxFlag i s)
  onFrame_keeps : ∀ (f : Frame) {s : State}, P s → P (onFrame f s).2

namespace ChipInvariant

variable {P : State → Prop} {s t : State}

/-- Of the commands only RESET and RTS touch more than the session and the output. -/
theorem exec_keeps (h : ChipInvariant P) (i : Instr) (hs : P s) (he : exec i s = .next t) : P t := by
  cases i with
  | reset =>
    obtain rfl := Host.Outcome.next.inj he
    exact h.congr h.reset rfl rfl rfl
  | rts nnn =>
    obtain rfl := Host.Outcome.next.inj he
    exact h.congr (h.requestToSend_keeps nnn hs) rfl rfl rfl
  | _ =>
    obtain rfl := Host.Outcome.next.inj he
    exact h.congr hs rfl rfl rfl

/-- Of the operand and data bytes only those of a write touch more than the session and the output. -/
theorem spiByte_keeps (h : ChipInvariant P) (b : Byte) (hs : P s) (hb : spiByte b s = .next t) : P t := by
  unfold spiByte at hb
  split at hb
  · cases hb
  · cases hst : s.spi.state with
    | awaitingInstruction =>
      rw [hst] at hb
      exact h.exec_keeps _ hs hb
    | writingData =>
      rw [hst] at hb
      obtain rfl := Host.Outcome.next.inj hb
      exact h.congr (h.update_keeps s.spi.address b hs) rfl rfl rfl
    | modifyingData =>
      rw [hst] at hb
      obtain rfl := Host.Outcome.next.inj hb
      exact h.congr (h.update_keeps s.spi.address (modifyMerge b s) hs) rfl rfl rfl
    | _ =>
      rw [hst] at hb
      obtain rfl := Host.Outcome.next.inj hb
      exact h.congr hs rfl rfl rfl

theorem csAssert_keeps (h : ChipInvariant P) (hs : P s) : P (csAssert s) := by
  unfold csAssert
  split
  · exact hs
  · exact h.congr hs rfl rfl rfl

theorem csDeassert_keeps (h : ChipInvariant P) (hs : P s) : P (csDeassert s) := by
  unfold csDeassert
  split
  · exact hs
  · have h1 : P (s.setCs .deasserted) := h.congr hs rfl rfl rfl
    dsimp only
    cases (s.setCs .deasserted).spi.rxMemo with
    | some i => exact h.congr (h.clearRxFlag_keeps i h1) rfl rfl rfl
    | none => exact h.congr h1 rfl rfl rfl

theorem busRx_keeps (h : ChipInvariant P) (f : Frame) (hs : P s) : P (busRx f s) := by
  unfold busRx
  split
  · exact h.congr (h.onFrame_keeps f hs) rfl rfl rfl
  · exact h.congr hs rfl rfl rfl

/-- Every step keeps a chip invariant. -/
theorem step_keeps (h : ChipInvariant P) (hs : P s) (hstep : step s = .next t) : P t := by
  unfold step at hstep
  cases hp : s.pending with
  | nil =>
    rw [hp] at hstep
    obtain rfl := Host.Outcome.next.inj hstep
    exact hs
  | cons e rest =>
    rw [hp] at hstep
    have hb : P (s.beginEvent rest) := h.congr hs rfl rfl rfl
    cases e with
    | spiByte b => exact h.spiByte_keeps b hb hstep
    | csAssert =>
      obtain rfl := Host.Outcome.next.inj hstep
      exact h.csAssert_keeps hb
    | csDeassert =>
      obtain rfl := Host.Outcome.next.inj hstep
      exact h.csDeassert_keeps hb
    | busRx f =>
      obtain rfl := Host.Outcome.next.inj hstep
      exact h.busRx_keeps f hb
    | deviceReset =>
      obtain rfl := Host.Outcome.next.inj hstep
      exact h.congr h.reset rfl rfl rfl

end ChipInvariant

/-! ### What the receive path can do -/

/-- A frame that is looked at stores into one buffer, overflows one buffer, or leaves no trace. -/
theorem receiveWith_cases (irq : Byte → State → State) (f : Frame) (s : State) :
    receiveWith irq f s = s ∨ (∃ b k, receiveWith irq f s = dispatchWith irq f b k s) ∨
      ∃ n, receiveWith irq f s = raiseConditionWith irq (.rxOverflow n) s := by
  have h1 : offerTo1With irq f s = s ∨ (∃ b k, offerTo1With irq f s = dispatchWith irq f b k s) ∨
      ∃ n, offerTo1With irq f s = raiseConditionWith irq (.rxOverflow n) s := by
    unfold offerTo1With
    cases checkFilters f 1 s.reg with
    | matched k =>
      by_cases hf : s.reg.rxFull 1 = false
      · exact .inr (.inl ⟨1, k, if_pos hf⟩)
      · exact .inr (.inr ⟨1, if_neg hf⟩)
    | invalidConfig => exact .inl rfl
    | noMatch => exact .inl rfl
  unfold receiveWith
  cases checkFilters f 0 s.reg with
  | matched k =>
    dsimp only
    unfold acceptFor0With
    split
    · exact .inr (.inl ⟨0, k, rfl⟩)
    · split
      · split
        · exact .inr (.inl ⟨1, k, rfl⟩)
        · exact .inr (.inr ⟨0, rfl⟩)
      · exact .inr (.inr ⟨0, rfl⟩)
  | invalidConfig => exact h1
  | noMatch => exact h1

/-- What a frame can do: nothing, raise WAKIF asleep, or awake be stored or overflow (R252, R253). -/
theorem onFrameWith_cases (irq : Byte → State → State) (f : Frame) (s : State) :
    (onFrameWith irq f s).2 = s ∨ (onFrameWith irq f s).2 = irq flagWak s ∨
      (s.mode ≠ modeSleep ∧ ∃ b k, (onFrameWith irq f s).2 = dispatchWith irq f b k s) ∨
      (s.mode ≠ modeSleep ∧ ∃ n, (onFrameWith irq f s).2 = raiseConditionWith irq (.rxOverflow n) s) := by
  unfold onFrameWith
  split
  · exact .inl rfl
  · split
    · exact .inr (.inl rfl)
    · next hm =>
      rcases receiveWith_cases irq f s with h | h | h
      · exact .inl h
      · exact .inr (.inr (.inl ⟨hm, h⟩))
      · exact .inr (.inr (.inr ⟨hm, h⟩))

/-! ### Properties of the registers alone -/

/-- A property of the registers that holds at reset and that each register update of the model keeps. The write of
rx[0].ctrl is one update with its mirror BUKT1, which is wrong in between (R234). -/
structure RegisterInvariant (P : State → Prop) : Prop where
  congr : ∀ {s t : State}, P s → t.reg = s.reg → P t
  reset : P State.reset
  canintf : ∀ (v : Byte) {s : State}, P s → P (s.setCanintf v)
  canctrl : ∀ (v : Byte) {s : State}, P s → P (s.setCanctrl v)
  mode : ∀ (m : BitVec 3) {s : State}, P s → P (s.setCanstat (setModeField s.reg.canstat m))
  code : ∀ (c : BitVec 3) {s : State}, P s → P (s.setCanstat (setIcodField s.reg.canstat c))
  overflow : ∀ (n : Fin Config.nRx) {s : State}, P s → P (s.setEflg (setBit s.reg.eflg (rxovrBit n) true))
  txBit : ∀ (n : Fin Config.nTx) (i : Nat) (b : Bool) {s : State}, i = abtfBit ∨ i = txreqBit → P s →
    P (s.setTxCtrlBit n i b)
  dispatch : ∀ (f : Frame) (b : Fin Config.nRx) (k : Fin Config.nFilter) {s : State}, P s →
    P (s.setRx b (storedBuffer f b k s.reg.rx[b]))
  store : ∀ (a : Addr) (v : Byte) {s : State}, (resolve a).slot ≠ .rx 0 .ctrl → P s → P (maskedStore a v s)
  storeAndMirror : ∀ (a : Addr) (v : Byte) {s : State}, (resolve a).slot = .rx 0 .ctrl → P s →
    P (mirrorBukt (maskedStore a v s))

namespace RegisterInvariant

variable {P : State → Prop} {s : State}

theorem irqRaiseWith_keeps (h : RegisterInvariant P) (wake : State → State) (hw : ∀ {t : State}, P t → P (wake t))
    (fl : Byte) (hs : P s) : P (irqRaiseWith wake fl s) := by
  have h1 : P (s.setCanintf (s.reg.canintf ||| fl)) := h.canintf _ hs
  have h2 : ∀ eff, P ((s.setCanintf (s.reg.canintf ||| fl)).setIrqPrev eff) := fun _ => h.congr h1 rfl
  unfold irqRaiseWith
  dsimp only
  split
  · exact h1
  · split
    · exact h.congr (hw (h.code _ (h2 _))) rfl
    · exact h.congr (h.code _ (h2 _)) rfl

theorem onFrameWith_keeps (h : RegisterInvariant P) (irq : Byte → State → State)
    (hi : ∀ (fl : Byte) {t : State}, P t → P (irq fl t)) (f : Frame) (hs : P s) : P (onFrameWith irq f s).2 := by
  rcases onFrameWith_cases irq f s with e | e | ⟨-, b, k, e⟩ | ⟨-, n, e⟩ <;> rw [e]
  · exact hs
  · exact hi _ hs
  · exact hi _ (h.dispatch f b k hs)
  · exact hi _ (h.overflow n hs)

theorem trySend_keeps (h : RegisterInvariant P) (n : Fin Config.nTx) (hs : P s) : P (trySend n s) := by
  have hawake : ∀ (fl : Byte) {t : State}, P t → P (irqRaiseAwake fl t) := fun fl _ ht => h.irqRaiseWith_keeps _ id fl ht
  unfold trySend doSend
  split
  · split
    · exact hs
    · refine hawake _ (h.txBit n _ _ (.inr rfl) ?_)
      split
      · exact h.congr hs rfl
      · exact h.onFrameWith_keeps _ hawake _ hs
  · exact hs

theorem requestToSend_keeps (h : RegisterInvariant P) (m : BitVec 3) (hs : P s) : P (requestToSend m s) := by
  unfold requestToSend
  split
  · exact hs
  · exact foldl_preserves P requestOne
      (fun t n ht => h.trySend_keeps n (h.txBit n _ _ (.inr rfl) (h.txBit n _ _ (.inl rfl) ht))) _ _ hs

theorem abortPending_keeps (h : RegisterInvariant P) (hs : P s) : P (abortPending s) := by
  have h1 : ∀ n {t : State}, P t → P (abortOne t n) := by
    intro n t ht
    unfold abortOne
    split
    · exact h.txBit n _ _ (.inl rfl) (h.txBit n _ _ (.inr rfl) ht)
    · exact ht
  unfold abortPending
  split
  · exact h1 1 (h1 0 hs)
  · exact hs

theorem commitMode_keeps (h : RegisterInvariant P) (w : Bool) (hs : P s) : P (commitMode w s) := by
  unfold commitMode
  split
  · exact h.requestToSend_keeps _ (h.mode _ hs)
  · exact hs

theorem recomputeMode_keeps (h : RegisterInvariant P) (w : Bool) (hs : P s) : P (recomputeMode w s) := by
  have hsnap : P (snapRequest (abortPending s)) := by
    unfold snapRequest
    split
    · exact h.canctrl _ (h.abortPending_keeps hs)
    · exact h.abortPending_keeps hs
  unfold recomputeMode forceListen
  split
  · exact h.canctrl _ (h.commitMode_keeps w hsnap)
  · exact h.commitMode_keeps w hsnap

theorem irqRaise_keeps (h : RegisterInvariant P) (fl : Byte) (hs : P s) : P (irqRaise fl s) :=
  h.irqRaiseWith_keeps _ (h.recomputeMode_keeps true) fl hs

theorem sideEffect_keeps (h : RegisterInvariant P) (sl : Slot) (hsl : sl ≠ .rx 0 .ctrl) (hs : P s) : P (sideEffect sl s) := by
  cases sl with
  | caninte => exact h.irqRaise_keeps _ hs
  | canintf => exact h.irqRaise_keeps _ hs
  | bfpctrl => exact h.congr hs rfl
  | canctrl => exact h.recomputeMode_keeps false hs
  | rx n b =>
    cases b with
    | ctrl =>
      have hn : n ≠ 0 := fun e => hsl (by rw [e])
      rw [sideEffect_plain _ _ (by simp [plainSlot, hn])]
      exact hs
    | _ => exact hs
  | tx n b =>
    cases b with
    | ctrl =>
      unfold sideEffect txCtrlWritten
      dsimp only
      split
      · exact h.txBit n _ _ (.inr rfl) hs
      · exact h.trySend_keeps n (h.txBit n _ _ (.inl rfl) hs)
    | _ => exact hs
  | _ => exact hs

theorem update_keeps (h : RegisterInvariant P) (a : Addr) (v : Byte) (hs : P s) : P (update a v s) := by
  by_cases hsl : (resolve a).slot = .rx 0 .ctrl
  · rw [update, hsl]
    exact h.storeAndMirror a v hsl hs
  · exact h.sideEffect_keeps _ hsl (h.store a v hsl hs)

/-- A register invariant is kept by every step. -/
theorem chipInvariant (h : RegisterInvariant P) : ChipInvariant P where
  congr hs hreg _ _ := h.congr hs hreg
  reset := h.reset
  update_keeps a v _ hs := h.update_keeps a v hs
  requestToSend_keeps m _ hs := h.requestToSend_keeps m hs
  clearRxFlag_keeps _ _ hs := h.irqRaise_keeps _ (h.canintf _ hs)
  onFrame_keeps f _ hs := h.onFrameWith_keeps _ (fun fl _ ht => h.irqRaise_keeps fl ht) f hs

end RegisterInvariant

end Sys2Proof.Machine
end

section
/-! SUPPORT. The reserved bits of every register stay 0, and BUKT1 follows BUKT: both are register invariants. The
reserved bits are given per slot (`reservedBits`), so that a write needs one fact: its mask spares them. -/

namespace Sys2Proof.Machine

open Sys2Proof

/-! ### Which bits an update leaves alone -/

/-- Two bytes agree under a mask when they agree on the bits of the mask. -/
theorem and_eq_and_of_bits {v w r : Byte} (h : ∀ j, j < 8 → bit r j = true → bit v j = bit w j) : v &&& r = w &&& r := by
  apply byte_ext
  intro j hj
  have hb := h j hj
  unfold bit at hb ⊢
  rw [BitVec.getLsbD_and, BitVec.getLsbD_and]
  cases hr : r.getLsbD j with
  | false => simp
  | true => rw [hb hr]

theorem setBit_and (v r : Byte) (i : Nat) (b : Bool) (hi : i < 8) (hr : bit r i = false) :
    setBit v i b &&& r = v &&& r :=
  and_eq_and_of_bits fun j _ hj => bit_setBit_ne v b hi fun e => by simp [e, hr] at hj

theorem mergeMasked_and (old v m r : Byte) (h : m &&& r = 0) : mergeMasked old v m &&& r = old &&& r :=
  and_eq_and_of_bits fun j _ hj => by
    have hm : bit m j = false := by
      have hz := congrArg (fun x : Byte => x.getLsbD j) h
      unfold bit at hj ⊢
      simpa [BitVec.getLsbD_and, hj] using hz
    rw [bit_mergeMasked, hm]
    rfl

/-- The constant bits 0 and 4 of canstat are in neither of its fields (R35). -/
theorem setModeField_and_constant (v : Byte) (m : BitVec 3) : setModeField v m &&& 0x11 = v &&& 0x11 := by
  have hr : ∀ j, j < 8 → bit 0x11 j = true → j < 5 := by decide
  exact and_eq_and_of_bits fun j hj hb => bit_setModeField v m j (hr j hj hb)

theorem setIcodField_and_constant (v : Byte) (c : BitVec 3) : setIcodField v c &&& 0x11 = v &&& 0x11 := by
  have hr : ∀ j, j < 8 → bit 0x11 j = true → j = 0 ∨ 4 ≤ j := by decide
  exact and_eq_and_of_bits fun j hj hb => bit_setIcodField v c j (hr j hj hb)

theorem bit_setFilhitField (v : Byte) (k : BitVec 3) (j : Nat) (hj : j < 8) (h : 3 ≤ j) :
    bit (setFilhitField v k) j = bit v j := by
  unfold bit setFilhitField
  interval_cases j <;> simp

/-- A reception writes only RXRTR and the filter-hit bits of an RX control byte (R266). -/
theorem bit_storedCtrl (f : Frame) (b : Fin Config.nRx) (k : Fin Config.nFilter) (old : Byte) (j : Nat) (hj : j < 8)
    (hrtr : j ≠ rxrtrBit) (h0 : b = 0 → j ≠ filhit0Bit) (h1 : b ≠ 0 → 3 ≤ j) :
    bit (storedCtrl f b k old) j = bit old j := by
  unfold storedCtrl
  rw [bit_setBit_ne _ _ (by decide) hrtr]
  split
  · next hb => exact bit_setBit_ne _ _ (by decide) (h0 hb)
  · next hb => exact bit_setFilhitField _ _ _ hj (h1 hb)

theorem storedCtrl_and_reserved (f : Frame) (b : Fin Config.nRx) (k : Fin Config.nFilter) (old : Byte) :
    storedCtrl f b k old &&& 0x90 = old &&& 0x90 := by
  have hr : ∀ j, j < 8 → bit 0x90 j = true → j ≠ rxrtrBit ∧ j ≠ filhit0Bit ∧ 3 ≤ j := by decide
  exact and_eq_and_of_bits fun j hj hb =>
    bit_storedCtrl f b k old j hj (hr j hj hb).1 (fun _ => (hr j hj hb).2.1) fun _ => (hr j hj hb).2.2

/-- Bit 2 of the sidl byte of a received frame is never set (R30, R263). -/
theorem storedId_sidl_and_reserved (f : Frame) : (storedId f).sidl &&& 0x04 = 0 := by
  have hr : ∀ j, j < 8 → bit 0x04 j = true → j = 2 := by decide
  refine (and_eq_and_of_bits (w := 0) fun j hj hb => ?_).trans (by decide)
  obtain rfl := hr j hj hb
  unfold storedId bit
  split
  · simp [oneBit, exideBit]
  · simp [oneBit]

/-- The dlc byte of a received frame: a length of at most 8 and the RTR bit (R31, R264). -/
theorem storedDlc_bounds (f : Frame) : storedDlc f &&& 0xB0 = 0 ∧ (storedDlc f &&& 0x0F).toNat ≤ 8 := by
  have h : ∀ (n : Fin 9) (b : Bool), (BitVec.ofNat 8 n.val ||| oneBit rtrBit b) &&& 0xB0 = 0 ∧
      ((BitVec.ofNat 8 n.val ||| oneBit rtrBit b) &&& 0x0F).toNat ≤ 8 := by decide
  have hn : clampLen f.len < 9 := by
    unfold clampLen
    omega
  exact h ⟨clampLen f.len, hn⟩ (f.ext && f.rtr)

/-! ### Reserved bits, slot by slot -/

/-- The bits of each slot that stay 0 (R21, R37 and the bits of 10_state.md marked "0 (never set)"). -/
def reservedBits : Slot → Byte
  | .canstat => 0x11
  | .bfpctrl => 0xC0
  | .txrtsctrl => 0xF8
  | .tecReg => 0xFF
  | .recReg => 0xFF
  | .cnf3 => 0x38
  | .eflg => 0x3F
  | .tx _ .ctrl => 0xB4
  | .tx _ (.id .sidl) => 0x14
  | .tx _ .dlc => 0xB0
  | .rx _ .ctrl => 0x90
  | .rx _ (.id .sidl) => 0x04
  | .rx _ .dlc => 0xB0
  | .filter _ .sidl => 0x14
  | .mask _ .sidl => 0x1C
  | _ => 0x00

/-- `ReservedBitsClear` with one clause for all slots. -/
def ReservedSlotsClear (s : State) : Prop :=
  (∀ sl, s.reg.get sl &&& reservedBits sl = 0) ∧ ∀ n, (s.reg.get (.rx n .dlc) &&& 0x0F).toNat ≤ 8

theorem reservedBitsClear_iff (s : State) : ReservedBitsClear s ↔ ReservedSlotsClear s := by
  have hff : ∀ v : Byte, v &&& 0xFF = v := fun v => BitVec.and_allOnes
  have hz : ∀ v : Byte, v &&& 0x00 = 0 := fun v => BitVec.and_zero
  constructor
  · rintro ⟨⟨hstat, hbfp, hrts, htec, hrec, hcnf3, heflg⟩, htx, hrx, hfil, hmask⟩
    refine ⟨fun sl => ?_, fun n => (hrx n).2.2.2⟩
    cases sl with
    | canstat => exact hstat
    | bfpctrl => exact hbfp
    | txrtsctrl => exact hrts
    | tecReg => exact (hff _).trans htec
    | recReg => exact (hff _).trans hrec
    | cnf3 => exact hcnf3
    | eflg => exact heflg
    | tx n b =>
      obtain ⟨hctrl, hsidl, hdlc⟩ := htx n
      cases b with
      | ctrl => exact hctrl
      | dlc => exact hdlc
      | data j => exact hz _
      | id j =>
        cases j with
        | sidl => exact hsidl
        | _ => exact hz _
    | rx n b =>
      obtain ⟨hctrl, hsidl, hdlc, -⟩ := hrx n
      cases b with
      | ctrl => exact hctrl
      | dlc => exact hdlc
      | data j => exact hz _
      | id j =>
        cases j with
        | sidl => exact hsidl
        | _ => exact hz _
    | filter k j =>
      cases j with
      | sidl => exact hfil k
      | _ => exact hz _
    | mask k j =>
      cases j with
      | sidl => exact hmask k
      | _ => exact hz _
    | _ => exact hz _
  · rintro ⟨h, hlen⟩
    exact ⟨⟨h .canstat, h .bfpctrl, h .txrtsctrl, (hff _).symm.trans (h .tecReg), (hff _).symm.trans (h .recReg),
        h .cnf3, h .eflg⟩,
      fun n => ⟨h (.tx n .ctrl), h (.tx n (.id .sidl)), h (.tx n .dlc)⟩,
      fun n => ⟨h (.rx n .ctrl), h (.rx n (.id .sidl)), h (.rx n .dlc), hlen n⟩,
      fun k => h (.filter k .sidl), fun k => h (.mask k .sidl)⟩

/-- No write mask covers a reserved bit (R21, R82). -/
theorem writeMask_and_reservedBits : ∀ a : Addr, (resolve a).writeMask &&& reservedBits (resolve a).slot = 0 := by
  decide +kernel

/-- The length byte of an RX buffer is read-only (R82). -/
theorem writeMask_rx_dlc : ∀ (n : Fin Config.nRx) (a : Addr), (resolve a).slot = .rx n .dlc →
    (resolve a).writeMask = 0x00 := by
  decide +kernel

/-- Storing a byte without reserved bits keeps the reserved bits clear. -/
theorem ReservedSlotsClear.setSlot {s : State} (h : ReservedSlotsClear s) (sl : Slot) (v : Byte)
    (hv : v &&& reservedBits sl = 0) (hlen : ∀ n, sl = .rx n .dlc → (v &&& 0x0F).toNat ≤ 8) :
    ReservedSlotsClear (s.setSlot sl v) := by
  refine ⟨fun sm => ?_, fun n => ?_⟩
  · rw [State.setSlot_reg, RegFile.get_set]
    split
    · next e => rw [e]; exact hv
    · exact h.1 sm
  · rw [State.setSlot_reg, RegFile.get_set]
    split
    · next e => exact hlen n e.symm
    · exact h.2 n

theorem ReservedSlotsClear.maskedStore {s : State} (h : ReservedSlotsClear s) (a : Addr) (v : Byte) :
    ReservedSlotsClear (maskedStore a v s) := by
  refine h.setSlot _ _ ?_ fun n hn => ?_
  · rw [mergeMasked_and _ _ _ _ (writeMask_and_reservedBits a)]
    exact h.1 _
  · have hold : mergeMasked (s.raw a) v (resolve a).writeMask = s.reg.get (.rx n .dlc) := by
      rw [writeMask_rx_dlc n a hn, State.raw, hn]
      exact mergeMasked_zero _ _
    rw [hold]
    exact h.2 n

theorem get_rx_setRx (s : State) (b n : Fin Config.nRx) (t : Buffer) (c : BufByte) :
    (s.setRx b t).reg.get (.rx n c) = if n = b then t.get c else s.reg.get (.rx n c) := by
  simp only [RegFile.get, State.setRx_reg_rx, rx_getElem_set]
  split <;> rfl

/-- Storing a received frame keeps the reserved bits clear. -/
theorem ReservedSlotsClear.dispatch {s : State} (h : ReservedSlotsClear s) (f : Frame) (b : Fin Config.nRx)
    (k : Fin Config.nFilter) : ReservedSlotsClear (s.setRx b (storedBuffer f b k s.reg.rx[b])) := by
  refine ⟨fun sl => ?_, fun n => ?_⟩
  · have hold := h.1 sl
    cases sl with
    | rx n c =>
      rw [get_rx_setRx]
      split
      · cases c with
        | ctrl => exact (storedCtrl_and_reserved f b k _).trans (h.1 (.rx b .ctrl))
        | dlc => exact (storedDlc_bounds f).1
        | data j => exact BitVec.and_zero
        | id j =>
          cases j with
          | sidl => exact storedId_sidl_and_reserved f
          | _ => exact BitVec.and_zero
      · exact hold
    | _ => exact hold
  · rw [get_rx_setRx]
    split
    · exact (storedDlc_bounds f).2
    · exact h.2 n

/-! ### The two invariants -/

theorem registerInvariant_reservedSlotsClear : RegisterInvariant ReservedSlotsClear where
  congr hs hreg := by
    unfold ReservedSlotsClear
    rw [hreg]
    exact hs
  reset := (reservedBitsClear_iff _).1 (by decide)
  canintf v _ hs := hs.setSlot .canintf v BitVec.and_zero nofun
  canctrl v _ hs := hs.setSlot .canctrl v BitVec.and_zero nofun
  mode m _ hs := hs.setSlot .canstat _ ((setModeField_and_constant _ m).trans (hs.1 .canstat)) nofun
  code c _ hs := hs.setSlot .canstat _ ((setIcodField_and_constant _ c).trans (hs.1 .canstat)) nofun
  overflow n _ hs := by
    have hr : ∀ n, rxovrBit n < 8 ∧ bit 0x3F (rxovrBit n) = false := by decide
    exact hs.setSlot .eflg _ ((setBit_and _ _ _ true (hr n).1 (hr n).2).trans (hs.1 .eflg)) nofun
  txBit n i b _ hi hs := by
    have hr : i < 8 ∧ bit 0xB4 i = false := by
      rcases hi with rfl | rfl <;> decide
    exact hs.setSlot (.tx n .ctrl) _ ((setBit_and _ _ i b hr.1 hr.2).trans (hs.1 (.tx n .ctrl))) nofun
  dispatch f b k _ hs := hs.dispatch f b k
  store a v _ _ hs := hs.maskedStore a v
  storeAndMirror a v _ _ hs :=
    (hs.maskedStore a v).setSlot (.rx 0 .ctrl) _
      ((setBit_and _ _ _ _ (by decide) (by decide)).trans ((hs.maskedStore a v).1 (.rx 0 .ctrl))) nofun

theorem registerInvariant_buktMirrored : RegisterInvariant BuktMirrored where
  congr hs hreg := by
    unfold BuktMirrored
    rw [hreg]
    exact hs
  reset := by decide
  canintf _ _ hs := hs
  canctrl _ _ hs := hs
  mode _ _ hs := hs
  code _ _ hs := hs
  overflow _ _ hs := hs
  txBit _ _ _ _ _ hs := hs
  dispatch f b k s hs := by
    have hctrl : ∀ j, j = buktBit ∨ j = bukt1Bit →
        bit ((s.setRx b (storedBuffer f b k s.reg.rx[b])).reg.get (.rx 0 .ctrl)) j =
          bit (s.reg.get (.rx 0 .ctrl)) j := fun j hj => by
      rw [get_rx_setRx]
      split
      · next e =>
        subst e
        have hr : j < 8 ∧ j ≠ rxrtrBit ∧ j ≠ filhit0Bit := by
          rcases hj with rfl | rfl <;> decide
        exact bit_storedCtrl f 0 k _ j hr.1 hr.2.1 (fun _ => hr.2.2) fun h => absurd rfl h
      · rfl
    exact (hctrl bukt1Bit (.inr rfl)).trans (hs.trans (hctrl buktBit (.inl rfl)).symm)
  store a v s hsl hs := by
    have hkeep : (maskedStore a v s).reg.get (.rx 0 .ctrl) = s.reg.get (.rx 0 .ctrl) := by
      rw [maskedStore, State.setSlot_reg, RegFile.get_set, if_neg hsl.symm]
    exact (congrArg (bit · bukt1Bit) hkeep).trans (hs.trans (congrArg (bit · buktBit) hkeep).symm)
  storeAndMirror a v s _ _ := by
    have hctrl : ∀ t : State, (mirrorBukt t).reg.get (.rx 0 .ctrl) =
        setBit (t.reg.get (.rx 0 .ctrl)) bukt1Bit (bit (t.reg.get (.rx 0 .ctrl)) buktBit) :=
      fun t => get_rx_setRx t 0 0 _ .ctrl
    change bit ((mirrorBukt _).reg.get (.rx 0 .ctrl)) bukt1Bit = bit ((mirrorBukt _).reg.get (.rx 0 .ctrl)) buktBit
    rw [hctrl, bit_setBit_same _ _ _ (by decide), bit_setBit_ne _ _ (by decide) (by decide)]

/-- Settles O56: both are register invariants, so every step keeps them. -/
theorem reservedBitsKeptByStep : Obligations.ReservedBitsKeptByStep := by
  refine ⟨fun s t hs hstep => ?_, fun s t hs hstep => registerInvariant_buktMirrored.chipInvariant.step_keeps hs hstep⟩
  rw [reservedBitsClear_iff] at hs ⊢
  exact registerInvariant_reservedSlotsClear.chipInvariant.step_keeps hs hstep

end Sys2Proof.Machine
end

section
/-! SUPPORT. Outside CONFIG mode the storage that no rule gives a behaviour (cnf1, cnf2, cnf3, txrtsctrl) cannot be
observed (R39, R40, R389). Every operation commutes with blanking it; only a gated read, and a write to one of the four
registers, look at it. -/

namespace Sys2Proof.Machine

open Sys2Proof

/-! ### What blanking leaves as it is -/

@[simp] theorem withoutTimingStorage_reg_canstat (s : State) : s.withoutTimingStorage.reg.canstat = s.reg.canstat := rfl
@[simp] theorem withoutTimingStorage_reg_canctrl (s : State) : s.withoutTimingStorage.reg.canctrl = s.reg.canctrl := rfl
@[simp] theorem withoutTimingStorage_reg_canintf (s : State) : s.withoutTimingStorage.reg.canintf = s.reg.canintf := rfl
@[simp] theorem withoutTimingStorage_reg_tx (s : State) : s.withoutTimingStorage.reg.tx = s.reg.tx := rfl
@[simp] theorem withoutTimingStorage_reg_rx (s : State) : s.withoutTimingStorage.reg.rx = s.reg.rx := rfl
@[simp] theorem withoutTimingStorage_spi (s : State) : s.withoutTimingStorage.spi = s.spi := rfl
@[simp] theorem withoutTimingStorage_cs (s : State) : s.withoutTimingStorage.cs = s.cs := rfl
@[simp] theorem withoutTimingStorage_irqPrev (s : State) : s.withoutTimingStorage.irqPrev = s.irqPrev := rfl
@[simp] theorem withoutTimingStorage_pending (s : State) : s.withoutTimingStorage.pending = s.pending := rfl
@[simp] theorem withoutTimingStorage_mode (s : State) : s.withoutTimingStorage.mode = s.mode := rfl
@[simp] theorem withoutTimingStorage_reqMode (s : State) : s.withoutTimingStorage.reqMode = s.reqMode := rfl
@[simp] theorem withoutTimingStorage_abat (s : State) : s.withoutTimingStorage.abat = s.abat := rfl
@[simp] theorem withoutTimingStorage_txreq (s : State) (n : Fin Config.nTx) :
    s.withoutTimingStorage.txreq n = s.txreq n := rfl
@[simp] theorem withoutTimingStorage_reg_effective (s : State) :
    s.withoutTimingStorage.reg.effective = s.reg.effective := rfl
@[simp] theorem withoutTimingStorage_reg_rxFull (s : State) (n : Fin Config.nRx) :
    s.withoutTimingStorage.reg.rxFull n = s.reg.rxFull n := rfl
@[simp] theorem withoutTimingStorage_checkFilters (f : Frame) (b : Fin Config.nRx) (s : State) :
    checkFilters f b s.withoutTimingStorage.reg = checkFilters f b s.reg := rfl
@[simp] theorem withoutTimingStorage_idem (s : State) :
    s.withoutTimingStorage.withoutTimingStorage = s.withoutTimingStorage := rfl

/-! ### Named updates commute with blanking -/

@[simp] theorem setCanstat_withoutTimingStorage (s : State) (v : Byte) :
    s.withoutTimingStorage.setCanstat v = (s.setCanstat v).withoutTimingStorage := rfl
@[simp] theorem setCanctrl_withoutTimingStorage (s : State) (v : Byte) :
    s.withoutTimingStorage.setCanctrl v = (s.setCanctrl v).withoutTimingStorage := rfl
@[simp] theorem setCanintf_withoutTimingStorage (s : State) (v : Byte) :
    s.withoutTimingStorage.setCanintf v = (s.setCanintf v).withoutTimingStorage := rfl
@[simp] theorem setRx_withoutTimingStorage (s : State) (n : Fin Config.nRx) (t : Buffer) :
    s.withoutTimingStorage.setRx n t = (s.setRx n t).withoutTimingStorage := rfl
@[simp] theorem setTxCtrlBit_withoutTimingStorage (s : State) (n : Fin Config.nTx) (i : Nat) (b : Bool) :
    s.withoutTimingStorage.setTxCtrlBit n i b = (s.setTxCtrlBit n i b).withoutTimingStorage := rfl
@[simp] theorem setIrqPrev_withoutTimingStorage (s : State) (v : Byte) :
    s.withoutTimingStorage.setIrqPrev v = (s.setIrqPrev v).withoutTimingStorage := rfl
@[simp] theorem setIrqPin_withoutTimingStorage (s : State) (b : Bool) :
    s.withoutTimingStorage.setIrqPin b = (s.setIrqPin b).withoutTimingStorage := rfl
@[simp] theorem goto_withoutTimingStorage (s : State) (st : SpiState) :
    s.withoutTimingStorage.goto st = (s.goto st).withoutTimingStorage := rfl
@[simp] theorem setAddress_withoutTimingStorage (s : State) (a : Addr) :
    s.withoutTimingStorage.setAddress a = (s.setAddress a).withoutTimingStorage := rfl
@[simp] theorem setRxMemo_withoutTimingStorage (s : State) (m : Option (Fin Config.nRx)) :
    s.withoutTimingStorage.setRxMemo m = (s.setRxMemo m).withoutTimingStorage := rfl
@[simp] theorem setCs_withoutTimingStorage (s : State) (c : ChipSelect) :
    s.withoutTimingStorage.setCs c = (s.setCs c).withoutTimingStorage := rfl
@[simp] theorem reply_withoutTimingStorage (s : State) (v : Byte) :
    s.withoutTimingStorage.reply v = (s.reply v).withoutTimingStorage := rfl
@[simp] theorem busSend_withoutTimingStorage (s : State) (f : Frame) :
    s.withoutTimingStorage.busSend f = (s.busSend f).withoutTimingStorage := rfl
@[simp] theorem recomputeRxnbf_withoutTimingStorage (i : Fin Config.nRx) (s : State) :
    recomputeRxnbf i s.withoutTimingStorage = (recomputeRxnbf i s).withoutTimingStorage := rfl

/-! ### The shared operations commute with blanking -/

theorem irqRaiseWith_withoutTimingStorage (wake : State → State)
    (hw : ∀ t : State, wake t.withoutTimingStorage = (wake t).withoutTimingStorage) (fl : Byte) (s : State) :
    irqRaiseWith wake fl s.withoutTimingStorage = (irqRaiseWith wake fl s).withoutTimingStorage := by
  unfold irqRaiseWith
  simp only [apply_ite State.withoutTimingStorage, withoutTimingStorage_reg_canintf, setCanintf_withoutTimingStorage,
    withoutTimingStorage_reg_effective, withoutTimingStorage_irqPrev, setIrqPrev_withoutTimingStorage,
    withoutTimingStorage_reg_canstat, setCanstat_withoutTimingStorage, withoutTimingStorage_mode, hw,
    ← setIrqPin_withoutTimingStorage, ← recomputeRxnbf_withoutTimingStorage]
  rfl

@[simp] theorem irqRaiseAwake_withoutTimingStorage (fl : Byte) (s : State) :
    irqRaiseAwake fl s.withoutTimingStorage = (irqRaiseAwake fl s).withoutTimingStorage :=
  irqRaiseWith_withoutTimingStorage (fun t => t) (fun _ => rfl) fl s

/-- The receive path commutes with blanking when its `irq_raise` does: it reads only RX buffers, filters and masks. -/
theorem onFrameWith_withoutTimingStorage (irq : Byte → State → State)
    (hi : ∀ fl (t : State), irq fl t.withoutTimingStorage = (irq fl t).withoutTimingStorage) (f : Frame) (s : State) :
    onFrameWith irq f s.withoutTimingStorage =
      ((onFrameWith irq f s).1, (onFrameWith irq f s).2.withoutTimingStorage) := by
  have hd : ∀ b k, dispatchWith irq f b k s.withoutTimingStorage = (dispatchWith irq f b k s).withoutTimingStorage :=
    fun b k => by simp only [dispatchWith, ← hi]; rfl
  have ho : ∀ n, raiseConditionWith irq (.rxOverflow n) s.withoutTimingStorage =
      (raiseConditionWith irq (.rxOverflow n) s).withoutTimingStorage :=
    fun n => by simp only [raiseConditionWith, ← hi]; rfl
  have ha : ∀ k, acceptFor0With irq f k s.withoutTimingStorage = (acceptFor0With irq f k s).withoutTimingStorage :=
    fun k => by simp [acceptFor0With, apply_ite State.withoutTimingStorage, hd, ho]
  have h1 : offerTo1With irq f s.withoutTimingStorage = (offerTo1With irq f s).withoutTimingStorage := by
    unfold offerTo1With
    rw [withoutTimingStorage_checkFilters]
    cases checkFilters f 1 s.reg with
    | matched k => simp [apply_ite State.withoutTimingStorage, hd, ho]
    | invalidConfig => rfl
    | noMatch => rfl
  have hr : receiveWith irq f s.withoutTimingStorage = (receiveWith irq f s).withoutTimingStorage := by
    unfold receiveWith
    rw [withoutTimingStorage_checkFilters]
    cases checkFilters f 0 s.reg with
    | matched k => exact ha k
    | invalidConfig => exact h1
    | noMatch => exact h1
  unfold onFrameWith
  rw [hr, hi, withoutTimingStorage_mode]
  split
  · rfl
  · split <;> rfl

@[simp] theorem doSend_withoutTimingStorage (n : Fin Config.nTx) (s : State) :
    doSend n s.withoutTimingStorage = (doSend n s).withoutTimingStorage := by
  unfold doSend
  simp [apply_ite State.withoutTimingStorage, onFrameWith_withoutTimingStorage irqRaiseAwake
    irqRaiseAwake_withoutTimingStorage, ← irqRaiseAwake_withoutTimingStorage, ← setTxCtrlBit_withoutTimingStorage]

@[simp] theorem trySend_withoutTimingStorage (n : Fin Config.nTx) (s : State) :
    trySend n s.withoutTimingStorage = (trySend n s).withoutTimingStorage := by
  simp [trySend, apply_ite State.withoutTimingStorage]

@[simp] theorem requestToSend_withoutTimingStorage (m : BitVec 3) (s : State) :
    requestToSend m s.withoutTimingStorage = (requestToSend m s).withoutTimingStorage := by
  simp only [requestToSend, apply_ite State.withoutTimingStorage, withoutTimingStorage_abat]
  congr 1
  exact List.foldl_hom State.withoutTimingStorage fun t n => by simp [requestOne]

@[simp] theorem abortPending_withoutTimingStorage (s : State) :
    abortPending s.withoutTimingStorage = (abortPending s).withoutTimingStorage := by
  have h : ∀ (t : State) n, abortOne t.withoutTimingStorage n = (abortOne t n).withoutTimingStorage := fun t n => by
    by_cases hx : t.txreq n <;> simp [abortOne, hx]
  simp [abortPending, apply_ite State.withoutTimingStorage, h]

/-- The mode controller reads canstat, canctrl and the TX buffers only (R310). -/
@[simp] theorem recomputeMode_withoutTimingStorage (w : Bool) (s : State) :
    recomputeMode w s.withoutTimingStorage = (recomputeMode w s).withoutTimingStorage := by
  have h2 : ∀ t : State, snapRequest t.withoutTimingStorage = (snapRequest t).withoutTimingStorage := fun t => by
    by_cases hx : 4 < t.reqMode.toNat <;> simp [snapRequest, hx]
  have h3 : ∀ t : State, commitMode w t.withoutTimingStorage = (commitMode w t).withoutTimingStorage := fun t => by
    simp only [commitMode, apply_ite State.withoutTimingStorage, ← requestToSend_withoutTimingStorage]
    rfl
  have h4 : ∀ t : State, forceListen t.withoutTimingStorage = (forceListen t).withoutTimingStorage := fun t => by
    by_cases hx : t.mode = modeSleep <;> simp [forceListen, hx]
  simp [recomputeMode, h2, h3, h4]

@[simp] theorem irqRaise_withoutTimingStorage (fl : Byte) (s : State) :
    irqRaise fl s.withoutTimingStorage = (irqRaise fl s).withoutTimingStorage :=
  irqRaiseWith_withoutTimingStorage _ (recomputeMode_withoutTimingStorage true) fl s

@[simp] theorem clearRxFlag_withoutTimingStorage (i : Fin Config.nRx) (s : State) :
    clearRxFlag i s.withoutTimingStorage = (clearRxFlag i s).withoutTimingStorage := by
  simp [clearRxFlag, irqRecompute]

@[simp] theorem busRx_withoutTimingStorage (f : Frame) (s : State) :
    busRx f s.withoutTimingStorage = (busRx f s).withoutTimingStorage := by
  have h : onFrame f s.withoutTimingStorage = ((onFrame f s).1, (onFrame f s).2.withoutTimingStorage) :=
    onFrameWith_withoutTimingStorage irqRaise irqRaise_withoutTimingStorage f s
  simp only [busRx, h, apply_ite State.withoutTimingStorage]
  rfl

/-! ### Register access -/

/-- The four slots that blanking clears. -/
def timingSlot : Slot → Bool
  | .cnf1 | .cnf2 | .cnf3 | .txrtsctrl => true
  | _ => false

theorem configOnlyRead_of_timingSlot :
    ∀ a : Addr, timingSlot (resolve a).slot = true → (resolve a).configOnlyRead = true := by
  decide +kernel

theorem get_withoutTimingStorage (s : State) (sl : Slot) (h : timingSlot sl = false) :
    s.withoutTimingStorage.reg.get sl = s.reg.get sl := by
  cases sl with
  | cnf1 | cnf2 | cnf3 | txrtsctrl => cases h
  | _ => rfl

theorem setSlot_withoutTimingStorage (s : State) (sl : Slot) (v : Byte) (h : timingSlot sl = false) :
    s.withoutTimingStorage.setSlot sl v = (s.setSlot sl v).withoutTimingStorage := by
  cases sl with
  | cnf1 | cnf2 | cnf3 | txrtsctrl => cases h
  | _ => rfl

theorem withoutTimingStorage_setSlot_timing (s : State) (sl : Slot) (v : Byte) (h : timingSlot sl = true) :
    (s.setSlot sl v).withoutTimingStorage = s.withoutTimingStorage := by
  cases sl with
  | cnf1 | cnf2 | cnf3 | txrtsctrl => rfl
  | _ => cases h

theorem raw_withoutTimingStorage (s : State) (a : Addr) (h : timingSlot (resolve a).slot = false) :
    s.withoutTimingStorage.raw a = s.raw a :=
  get_withoutTimingStorage s _ h

/-- The read gate hides the four registers outside CONFIG mode (R94). -/
theorem memRead_withoutTimingStorage (s : State) (a : Addr) (hm : s.mode ≠ modeConfig) :
    memRead a s.withoutTimingStorage = memRead a s := by
  cases h : timingSlot (resolve a).slot with
  | true => simp [memRead, configOnlyRead_of_timingSlot a h, hm]
  | false => simp [memRead, raw_withoutTimingStorage s a h]

theorem sideEffect_withoutTimingStorage (sl : Slot) (s : State) :
    sideEffect sl s.withoutTimingStorage = (sideEffect sl s).withoutTimingStorage := by
  cases sl with
  | tx n b => cases b <;> simp [sideEffect, txCtrlWritten, apply_ite State.withoutTimingStorage]
  | rx n b => cases b <;> simp [sideEffect, mirrorBukt, apply_ite State.withoutTimingStorage]
  | _ => simp [sideEffect, irqRecompute]

/-- A write to any other register neither reads nor changes the four. -/
theorem update_withoutTimingStorage (a : Addr) (v : Byte) (s : State) (h : timingSlot (resolve a).slot = false) :
    update a v s.withoutTimingStorage = (update a v s).withoutTimingStorage := by
  rw [update, maskedStore, raw_withoutTimingStorage s a h, setSlot_withoutTimingStorage s _ _ h,
    sideEffect_withoutTimingStorage]
  rfl

/-- A write to one of the four registers changes nothing else. -/
theorem withoutTimingStorage_update_timing (a : Addr) (v : Byte) (s : State) (h : timingSlot (resolve a).slot = true) :
    (update a v s).withoutTimingStorage = s.withoutTimingStorage := by
  have hp : plainSlot (resolve a).slot = true := by
    cases hs : (resolve a).slot with
    | cnf1 | cnf2 | cnf3 | txrtsctrl => rfl
    | _ => rw [hs] at h; cases h
  rw [update, sideEffect_plain _ _ hp]
  exact withoutTimingStorage_setSlot_timing s _ _ h

theorem modifyMerge_withoutTimingStorage (b : Byte) (s : State) (h : timingSlot (resolve s.spi.address).slot = false) :
    modifyMerge b s.withoutTimingStorage = modifyMerge b s := by
  rw [modifyMerge, withoutTimingStorage_spi, raw_withoutTimingStorage s _ h]
  rfl

/-- Two writes that agree but for the four registers: `v` and `w` may differ only where the slot is one of them. -/
theorem withoutTimingStorage_update_congr (a : Addr) (v w : Byte) (s : State)
    (h : timingSlot (resolve a).slot = false → v = w) :
    (update a v s).withoutTimingStorage = (update a w s.withoutTimingStorage).withoutTimingStorage := by
  cases ht : timingSlot (resolve a).slot with
  | true => simp [withoutTimingStorage_update_timing a _ _ ht]
  | false => simp [h ht, update_withoutTimingStorage a w s ht]

/-! ### One step -/

theorem exec_withoutTimingStorage (i : Instr) (s : State) :
    mapOutcome State.withoutTimingStorage (exec i s) =
      mapOutcome State.withoutTimingStorage (exec i s.withoutTimingStorage) := by
  cases i with
  | reset => rfl
  | read => rfl
  | write => rfl
  | bitmod => rfl
  | rdrxb n m => rfl
  | ldtxbLow bc => rfl
  | ldtxbHigh c => rfl
  | rts nnn => simp [exec, execRts, mapOutcome]
  | rdstat => rfl
  | rxstat => rfl
  | invalid b => rfl

theorem spiByte_withoutTimingStorage (b : Byte) (s : State) (hm : s.mode ≠ modeConfig) :
    mapOutcome State.withoutTimingStorage (spiByte b s) =
      mapOutcome State.withoutTimingStorage (spiByte b s.withoutTimingStorage) := by
  unfold spiByte
  rw [withoutTimingStorage_cs, withoutTimingStorage_spi]
  split
  · rfl
  · cases s.spi.state with
    | awaitingInstruction => exact exec_withoutTimingStorage _ _
    | awaitingAddress => rfl
    | writingData =>
      have h := withoutTimingStorage_update_congr s.spi.address b b s fun _ => rfl
      have hw : ∀ t : State, (writingDataByte b t).withoutTimingStorage =
          (((update t.spi.address b t).withoutTimingStorage.setAddress (nextAddress t.spi.address)).goto
            .writingData).reply spiFill := fun t => by simp [writingDataByte]
      simp only [mapOutcome, hw, withoutTimingStorage_spi, h]
    | readingData => simp [readingDataByte, mapOutcome, memRead_withoutTimingStorage s _ hm]
    | idle => rfl
    | readingStatus => rfl
    | readingRxStatus => rfl
    | awaitingModifyAddress => rfl
    | awaitingModifyMask => rfl
    | modifyingData =>
      have h := withoutTimingStorage_update_congr s.spi.address (modifyMerge b s)
        (modifyMerge b s.withoutTimingStorage) s fun ht =>
          (modifyMerge_withoutTimingStorage b s ht).symm
      have hw : ∀ t : State, (modifyingDataByte b t).withoutTimingStorage =
          ((update t.spi.address (modifyMerge b t) t).withoutTimingStorage.goto .modifyingData).reply spiFill :=
        fun t => rfl
      simp only [mapOutcome, hw, withoutTimingStorage_spi, h]

theorem deliver_withoutTimingStorage (e : Event) (s : State) (hm : s.mode ≠ modeConfig) :
    mapOutcome State.withoutTimingStorage (deliver e s) =
      mapOutcome State.withoutTimingStorage (deliver e s.withoutTimingStorage) := by
  cases e with
  | csAssert => by_cases h : s.cs = .asserted <;> simp [deliver, csAssert, mapOutcome, h]
  | csDeassert =>
    have h : csDeassert s.withoutTimingStorage = (csDeassert s).withoutTimingStorage := by
      unfold csDeassert
      rw [withoutTimingStorage_cs]
      split
      · rfl
      · simp only [setCs_withoutTimingStorage, withoutTimingStorage_spi]
        cases (s.setCs .deasserted).spi.rxMemo <;> simp
    simp [deliver, mapOutcome, h]
  | spiByte b => exact spiByte_withoutTimingStorage b s hm
  | busRx f => simp [deliver, mapOutcome]
  | deviceReset => rfl

/-- Settles O58: every event commutes with blanking, but for the gated read and for writes to the four registers. -/
theorem storageBitsNonInterference : Obligations.StorageBitsNonInterference := by
  intro s hm
  unfold step
  rw [withoutTimingStorage_pending]
  cases s.pending with
  | nil => simp [mapOutcome]
  | cons e rest => exact deliver_withoutTimingStorage e (s.beginEvent rest) hm

end Sys2Proof.Machine
end

section
/-! SUPPORT. What the arbiter and the mode controller do to the request bits TXREQ and ABTF, and what they and the
receive path do to the interrupt state. -/

namespace Sys2Proof.Machine

open Sys2Proof

/-! ### The request bits of one buffer -/

/-- ABTF of TX buffer `n` (R23). -/
def State.abtf (s : State) (n : Fin Config.nTx) : Bool := bit s.reg.tx[n].ctrl abtfBit

/-- The active mode is one in which a request is served at once (R300). -/
def State.sends (s : State) : Bool := decide (s.mode = modeNormal ∨ s.mode = modeLoopback)

theorem sends_iff (s : State) : s.sends = true ↔ s.mode = modeNormal ∨ s.mode = modeLoopback := decide_eq_true_iff

theorem not_sleep_of_sends {s : State} (h : s.sends = true) : s.mode ≠ modeSleep := by
  rcases (sends_iff s).1 h with h | h <;> rw [h] <;> decide

theorem sends_congr {s t : State} (h : t.mode = s.mode) : t.sends = s.sends := by
  unfold State.sends
  rw [h]

theorem txreq_congr {s t : State} {n : Fin Config.nTx} (h : t.reg.tx[n].ctrl = s.reg.tx[n].ctrl) :
    t.txreq n = s.txreq n := congrArg (bit · txreqBit) h

theorem abtf_congr {s t : State} {n : Fin Config.nTx} (h : t.reg.tx[n].ctrl = s.reg.tx[n].ctrl) :
    t.abtf n = s.abtf n := congrArg (bit · abtfBit) h

theorem setTxCtrlBit_ctrl (s : State) (n m : Fin Config.nTx) (i : Nat) (b : Bool) :
    (s.setTxCtrlBit n i b).reg.tx[m].ctrl = if m = n then setBit s.reg.tx[n].ctrl i b else s.reg.tx[m].ctrl := by
  simp only [State.setTxCtrlBit, State.setTx_reg_tx, tx_getElem_set]
  split <;> rfl

theorem setTxCtrlBit_eq_setSlot (s : State) (n : Fin Config.nTx) (i : Nat) (b : Bool) :
    s.setTxCtrlBit n i b = s.setSlot (.tx n .ctrl) (setBit s.reg.tx[n].ctrl i b) := rfl

/-- Writing the value a bit of a TX control byte already has changes nothing. -/
theorem setTxCtrlBit_self (s : State) (n : Fin Config.nTx) (i : Nat) (b : Bool) (hi : i < 8)
    (h : bit s.reg.tx[n].ctrl i = b) : s.setTxCtrlBit n i b = s := by
  rw [setTxCtrlBit_eq_setSlot, setBit_self _ _ _ hi h]
  exact congrArg (fun r => { s with reg := r }) (RegFile.set_get s.reg (.tx n .ctrl))

@[simp] theorem txreq_setTxCtrlBit_txreq (s : State) (n m : Fin Config.nTx) (b : Bool) :
    (s.setTxCtrlBit n txreqBit b).txreq m = if m = n then b else s.txreq m := by
  unfold State.txreq
  rw [setTxCtrlBit_ctrl]
  split
  · exact bit_setBit_same _ _ _ (by decide)
  · rfl

@[simp] theorem txreq_setTxCtrlBit_abtf (s : State) (n m : Fin Config.nTx) (b : Bool) :
    (s.setTxCtrlBit n abtfBit b).txreq m = s.txreq m := by
  unfold State.txreq
  rw [setTxCtrlBit_ctrl]
  split
  · next e => rw [e]; exact bit_setBit_ne _ _ (by decide) (by decide)
  · rfl

@[simp] theorem abtf_setTxCtrlBit_abtf (s : State) (n m : Fin Config.nTx) (b : Bool) :
    (s.setTxCtrlBit n abtfBit b).abtf m = if m = n then b else s.abtf m := by
  unfold State.abtf
  rw [setTxCtrlBit_ctrl]
  split
  · exact bit_setBit_same _ _ _ (by decide)
  · rfl

@[simp] theorem abtf_setTxCtrlBit_txreq (s : State) (n m : Fin Config.nTx) (b : Bool) :
    (s.setTxCtrlBit n txreqBit b).abtf m = s.abtf m := by
  unfold State.abtf
  rw [setTxCtrlBit_ctrl]
  split
  · next e => rw [e]; exact bit_setBit_ne _ _ (by decide) (by decide)
  · rfl

/-- Consistent request bits stay so while one buffer `n` changes, if a request there is neither marked aborted, nor made
under ABAT or in a sending mode. -/
theorem requestsConsistent_of_other {s t : State} (h : RequestsConsistent s) (n : Fin Config.nTx)
    (habat : t.abat = s.abat) (hmode : t.mode = s.mode) (htxreq : ∀ m, m ≠ n → t.txreq m = s.txreq m)
    (habtf : ∀ m, m ≠ n → t.abtf m = s.abtf m)
    (hn : t.txreq n = true → t.abtf n = false ∧ t.abat = false ∧ t.sends = false) : RequestsConsistent t := by
  obtain ⟨hmark, hab, hsend⟩ := h
  have hclear : ∀ m, s.txreq m = false → t.abat = true ∨ t.sends = true → t.txreq m = false := fun m hs ht => by
    by_cases hm : m = n
    · subst hm
      by_contra hreq
      obtain ⟨-, ha, hse⟩ := hn (by simpa using hreq)
      simp [ha, hse] at ht
    · rw [htxreq m hm, hs]
  refine ⟨fun m hm => ?_, fun ha => ?_, fun hse => ?_⟩
  · change t.abtf m = false
    by_cases hmn : m = n
    · subst hmn
      exact (hn hm).1
    · rw [habtf m hmn]
      rw [htxreq m hmn] at hm
      exact hmark m hm
  · obtain ⟨h0, h1⟩ := hab (habat ▸ ha)
    exact ⟨hclear 0 h0 (.inl ha), hclear 1 h1 (.inl ha)⟩
  · obtain ⟨h0, h1⟩ := hsend (hmode ▸ hse)
    exact ⟨hclear 0 h0 (.inr ((sends_iff t).2 hse)), hclear 1 h1 (.inr ((sends_iff t).2 hse))⟩

/-- Consistent request bits stay so while the TX control bytes and ABAT do and no sending mode is entered. -/
theorem requestsConsistent_congr {s t : State} (h : RequestsConsistent s)
    (htx : ∀ n : Fin Config.nTx, t.reg.tx[n].ctrl = s.reg.tx[n].ctrl) (habat : t.abat = s.abat)
    (hsends : t.sends = true → s.sends = true) : RequestsConsistent t := by
  obtain ⟨habtf, hab, hsend⟩ := h
  refine ⟨fun n hn => ?_, fun ha => ?_, fun hm => ?_⟩
  · rw [txreq_congr (htx n)] at hn
    exact (abtf_congr (htx n)).trans (habtf n hn)
  · rw [txreq_congr (htx 0), txreq_congr (htx 1)]
    exact hab (habat ▸ ha)
  · rw [txreq_congr (htx 0), txreq_congr (htx 1)]
    exact hsend ((sends_iff s).1 (hsends ((sends_iff t).2 hm)))

/-! ### The arbiter and the request bits -/

/-- Outside the sending modes a request stays queued (R300). -/
theorem doSend_of_not_sends (n : Fin Config.nTx) (s : State) (h : s.sends = false) : doSend n s = s := by
  have hm : ¬(s.mode = modeNormal ∨ s.mode = modeLoopback) := fun e => by simp [(sends_iff s).2 e] at h
  exact if_pos (not_or.1 hm)

/-- In a sending mode the frame goes to the bus or into the receive path, then TXREQ is cleared and TXnIF raised
(R295, R297 to R299). -/
theorem doSend_of_sends (n : Fin Config.nTx) (s : State) (h : s.sends = true) :
    ∃ u, (u = s.busSend (frameOf s.reg.tx[n]) ∨ u = (onFrameWith irqRaiseAwake (frameOf s.reg.tx[n]) s).2) ∧
      doSend n s = irqRaiseAwake (flagTx n) (u.setTxCtrlBit n txreqBit false) := by
  refine ⟨if s.mode = modeNormal then s.busSend (frameOf s.reg.tx[n]) else
    (onFrameWith irqRaiseAwake (frameOf s.reg.tx[n]) s).2, ?_, ?_⟩
  · split
    · exact .inl rfl
    · exact .inr rfl
  · exact if_neg (not_and_or.2 (((sends_iff s).1 h).imp not_not_intro not_not_intro))

theorem doSend_reg_tx (n : Fin Config.nTx) (s : State) :
    (doSend n s).reg.tx = if s.sends then (s.setTxCtrlBit n txreqBit false).reg.tx else s.reg.tx := by
  split
  · next h =>
    obtain ⟨u, hu, e⟩ := doSend_of_sends n s h
    have htx : u.reg.tx = s.reg.tx := by
      rcases hu with rfl | rfl <;> simp
    rw [e, irqRaiseAwake_reg_tx]
    simp only [State.setTxCtrlBit, State.setTx_reg_tx, htx]
  · next h => rw [doSend_of_not_sends n s (by simpa using h)]

theorem trySend_txreq (n m : Fin Config.nTx) (s : State) :
    (trySend n s).txreq m = if m = n ∧ s.sends = true then false else s.txreq m := by
  unfold trySend
  split
  · by_cases h : s.sends = true
    · rw [txreq_congr (t := doSend n s) (s := s.setTxCtrlBit n txreqBit false) (by rw [doSend_reg_tx, if_pos h])]
      simp [h]
    · rw [doSend_of_not_sends n s (by simpa using h)]
      simp [h]
  · next h =>
    split
    · next e => rw [e.1]; simpa using h
    · rfl

@[simp] theorem trySend_abtf (n m : Fin Config.nTx) (s : State) : (trySend n s).abtf m = s.abtf m := by
  unfold trySend
  split
  · by_cases h : s.sends = true
    · rw [abtf_congr (t := doSend n s) (s := s.setTxCtrlBit n txreqBit false) (by rw [doSend_reg_tx, if_pos h])]
      simp
    · rw [doSend_of_not_sends n s (by simpa using h)]
  · rfl

@[simp] theorem requestOne_sends (s : State) (n : Fin Config.nTx) : (requestOne s n).sends = s.sends :=
  sends_congr (requestOne_mode s n)

/-- A requested buffer ends up pending, or served where the mode sends (R291). -/
theorem requestOne_txreq (s : State) (n m : Fin Config.nTx) :
    (requestOne s n).txreq m = if m = n then !s.sends else s.txreq m := by
  have hs : ((s.setTxCtrlBit n abtfBit false).setTxCtrlBit n txreqBit true).sends = s.sends := sends_congr (by simp)
  rw [requestOne, trySend_txreq, hs]
  by_cases h : m = n <;> cases hb : s.sends <;> simp [h]

theorem requestOne_abtf (s : State) (n m : Fin Config.nTx) :
    (requestOne s n).abtf m = if m = n then false else s.abtf m := by
  simp [requestOne]

theorem foldl_requestOne_txreq (l : List (Fin Config.nTx)) (s : State) (m : Fin Config.nTx) :
    (l.foldl requestOne s).txreq m = if m ∈ l then !s.sends else s.txreq m := by
  induction l generalizing s with
  | nil => rfl
  | cons n l ih =>
    rw [List.foldl_cons, ih, requestOne_sends, requestOne_txreq]
    by_cases hl : m ∈ l <;> by_cases hn : m = n <;> simp [hl, hn]

theorem foldl_requestOne_abtf (l : List (Fin Config.nTx)) (s : State) (m : Fin Config.nTx) :
    (l.foldl requestOne s).abtf m = if m ∈ l then false else s.abtf m := by
  induction l generalizing s with
  | nil => rfl
  | cons n l ih =>
    rw [List.foldl_cons, ih, requestOne_abtf]
    by_cases hl : m ∈ l <;> by_cases hn : m = n <;> simp [hl, hn]

/-- The arbiter's order holds exactly the requested buffers (R292). -/
theorem mem_sendOrder (txp : Fin Config.nTx → BitVec 2) (bitmap : BitVec 3) (n : Fin Config.nTx) :
    n ∈ sendOrder txp bitmap ↔ bitmap.getLsbD n.val = true := by
  have hp : ∀ p : BitVec 2, p ∈ ([3, 2, 1, 0] : List (BitVec 2)) := by decide
  have hn : ∀ k : Fin Config.nTx, k ∈ ([0, 1, 2] : List (Fin Config.nTx)) := by decide
  simp only [sendOrder, List.mem_flatMap, List.mem_filter, Bool.and_eq_true, beq_iff_eq]
  constructor
  · rintro ⟨p, -, -, hb, -⟩
    exact hb
  · intro hb
    exact ⟨txp n, hp _, hn n, hb, rfl⟩

/-- While ABAT is set a request is a no-op (R290). -/
theorem requestToSend_of_abat (m : BitVec 3) (s : State) (h : s.abat = true) : requestToSend m s = s := if_pos h

theorem requestToSend_txreq (bitmap : BitVec 3) (s : State) (h : s.abat = false) (m : Fin Config.nTx) :
    (requestToSend bitmap s).txreq m = if bitmap.getLsbD m.val then !s.sends else s.txreq m := by
  simp only [requestToSend, h, Bool.false_eq_true, if_false, foldl_requestOne_txreq, mem_sendOrder]

theorem requestToSend_abtf (bitmap : BitVec 3) (s : State) (h : s.abat = false) (m : Fin Config.nTx) :
    (requestToSend bitmap s).abtf m = if bitmap.getLsbD m.val then false else s.abtf m := by
  simp only [requestToSend, h, Bool.false_eq_true, if_false, foldl_requestOne_abtf, mem_sendOrder]

/-- After arbitration the request bits are consistent, if they were but for those of buffers 0 and 1 that the bitmap
names. -/
theorem requestToSend_requestsConsistent (bitmap : BitVec 3) (s : State)
    (habtf : ∀ n, s.txreq n = true → s.abtf n = false) (habat : s.abat = true → s.txreq 0 = false ∧ s.txreq 1 = false)
    (hsend : s.sends = true → ∀ n, n = 0 ∨ n = 1 → bitmap.getLsbD n.val = false → s.txreq n = false) :
    RequestsConsistent (requestToSend bitmap s) := by
  cases ha : s.abat with
  | true =>
    rw [requestToSend_of_abat _ _ ha]
    exact ⟨habtf, habat, fun _ => habat ha⟩
  | false =>
    have htx := requestToSend_txreq bitmap s ha
    refine ⟨fun n hn => ?_, fun h => ?_, fun h => ?_⟩
    · change (requestToSend bitmap s).abtf n = false
      rw [htx] at hn
      rw [requestToSend_abtf bitmap s ha]
      split
      · rfl
      · next hb =>
        rw [if_neg hb] at hn
        exact habtf n hn
    · rw [requestToSend_abat, ha] at h
      cases h
    · have hs : s.sends = true := by
        rw [requestToSend_mode] at h
        exact (sends_iff s).2 h
      have hclear : ∀ n, n = 0 ∨ n = 1 → (requestToSend bitmap s).txreq n = false := fun n hn => by
        rw [htx, hs]
        cases hb : bitmap.getLsbD n.val with
        | true => rfl
        | false => exact hsend hs n hn hb
      exact ⟨hclear 0 (.inl rfl), hclear 1 (.inr rfl)⟩

/-! ### The mode controller and the request bits -/

theorem pendingBitmap_getLsbD (s : State) (n : Fin Config.nTx) :
    (pendingBitmap s).getLsbD n.val = (decide (n ≠ 2) && s.txreq n) := by
  unfold pendingBitmap
  match n with
  | 0 => simp
  | 1 => simp
  | 2 => simp

/-- Requesting again what is pending, where nothing is sent, changes nothing. -/
theorem requestToSend_pending_of_not_sends (s : State) (hs : s.sends = false)
    (habtf : ∀ n, s.txreq n = true → s.abtf n = false) : requestToSend (pendingBitmap s) s = s := by
  have hone : ∀ n, s.txreq n = true → requestOne s n = s := fun n hn => by
    rw [requestOne, setTxCtrlBit_self s n _ _ (by decide) (habtf n hn), setTxCtrlBit_self s n _ _ (by decide) hn,
      trySend, if_pos hn, doSend_of_not_sends n s hs]
  unfold requestToSend
  split
  · rfl
  · refine List.foldlRecOn (motive := fun t => t = s) _ _ rfl fun t ht n hn => ?_
    rw [mem_sendOrder, pendingBitmap_getLsbD, Bool.and_eq_true] at hn
    rw [ht, hone n hn.2]

theorem abortOne_txreq (s : State) (n m : Fin Config.nTx) :
    (abortOne s n).txreq m = if m = n then false else s.txreq m := by
  unfold abortOne
  split
  · simp
  · next h =>
    split
    · next e => rw [e]; simpa using h
    · rfl

theorem abortOne_abtf_ne (s : State) {n m : Fin Config.nTx} (hm : m ≠ n) : (abortOne s n).abtf m = s.abtf m := by
  unfold abortOne
  split <;> simp [hm]

/-- Step 1 of the mode controller makes the request bits consistent with ABAT (R311). -/
theorem abortPending_requestsConsistent (s : State) (habtf : ∀ n, s.txreq n = true → s.abtf n = false)
    (hsend : s.sends = true → s.txreq 0 = false ∧ s.txreq 1 = false) : RequestsConsistent (abortPending s) := by
  unfold abortPending
  split
  · next ha =>
    have htx : ∀ n, (abortOne (abortOne s 0) 1).txreq n = if n = 1 then false else if n = 0 then false else s.txreq n :=
      fun n => by rw [abortOne_txreq, abortOne_txreq]
    have hclear : (abortOne (abortOne s 0) 1).txreq 0 = false ∧ (abortOne (abortOne s 0) 1).txreq 1 = false := by
      simp [htx]
    refine ⟨fun n hn => ?_, fun _ => hclear, fun _ => hclear⟩
    change (abortOne (abortOne s 0) 1).abtf n = false
    rw [htx] at hn
    split at hn
    · cases hn
    · next h1 =>
      split at hn
      · cases hn
      · next h0 =>
        rw [abortOne_abtf_ne _ h1, abortOne_abtf_ne _ h0]
        exact habtf n hn
  · next ha => exact ⟨habtf, fun h => absurd h ha, fun h => hsend ((sends_iff s).2 h)⟩

/-- Where the request bits are consistent there is nothing to abort. -/
theorem abortPending_of_requestsConsistent (s : State) (h : RequestsConsistent s) : abortPending s = s := by
  unfold abortPending
  split
  · next ha =>
    obtain ⟨h0, h1⟩ := h.2.1 ha
    simp [abortOne, h0, h1]
  · rfl

/-! ### Raising flags -/

/-- The interrupt code and the IRQ pin follow `irq_prev`, as they do before and after flags are raised (R48). -/
def CodeCurrent (s : State) : Prop :=
  icodField s.reg.canstat = icod s.irqPrev ∧ s.pin.irq = decide (s.irqPrev ≠ 0x00)

/-- Raising flags brings `irq_prev` in step with the effective set. -/
theorem raised_interruptsCurrent (fl : Byte) (s : State) (h : CodeCurrent s) : InterruptsCurrent (raised fl s) := by
  obtain ⟨hcode, hpin⟩ := h
  unfold raised
  dsimp only
  split
  · next e => exact ⟨e.symm, hcode, hpin⟩
  · exact ⟨rfl, icodField_setIcodField _ _, rfl⟩

/-- Raising flags leaves the active mode, or wakes a sleeping chip up into LISTEN (R318). -/
theorem raised_mode_cases (fl : Byte) (s : State) :
    (raised fl s).mode = s.mode ∨ s.mode = modeSleep ∧ (raised fl s).mode = modeListen := by
  unfold raised
  dsimp only
  split
  · exact .inl rfl
  · cases hw : wakes ((s.reg.canintf ||| fl) &&& s.reg.caninte) s with
    | true =>
      have hm : s.mode = modeSleep := by
        unfold wakes at hw
        exact of_decide_eq_true (Bool.and_eq_true_iff.1 hw).1
      exact .inr ⟨hm, by simp [State.mode]⟩
    | false => exact .inl (by simp [State.mode])

theorem raised_reg_canctrl (fl : Byte) (s : State) : (raised fl s).reg.canctrl = s.reg.canctrl := by
  unfold raised
  dsimp only
  split <;> rfl

theorem raised_reg_tx (fl : Byte) (s : State) : (raised fl s).reg.tx = s.reg.tx := by
  unfold raised
  dsimp only
  split <;> rfl

theorem setModeField_setIcodField (v : Byte) (m c : BitVec 3) :
    setModeField (setIcodField v c) m = setIcodField (setModeField v m) c :=
  canstat_ext (by simp) (by simp)
    (by rw [bit_setModeField _ _ _ (by omega), bit_setIcodField _ _ _ (by omega), bit_setIcodField _ _ _ (by omega),
      bit_setModeField _ _ _ (by omega)])
    (by rw [bit_setModeField _ _ _ (by omega), bit_setIcodField _ _ _ (by omega), bit_setIcodField _ _ _ (by omega),
      bit_setModeField _ _ _ (by omega)])

/-- A wake-up moves a sleeping chip whose request is LISTEN into LISTEN, and nothing else (R318). -/
theorem recomputeMode_wakeUp (s : State) (hm : s.mode = modeSleep) (hr : s.reqMode = modeListen)
    (hq : RequestsConsistent s) :
    recomputeMode true s = s.setCanstat (setModeField s.reg.canstat modeListen) := by
  have hsnap : snapRequest s = s := if_neg (by rw [hr]; decide)
  have hmode : (s.setCanstat (setModeField s.reg.canstat modeListen)).mode = modeListen := by simp
  have hsends : (s.setCanstat (setModeField s.reg.canstat modeListen)).sends = false := by
    rw [State.sends, hmode]
    decide
  have hcommit : commitMode true s = s.setCanstat (setModeField s.reg.canstat modeListen) := by
    unfold commitMode
    rw [if_pos ⟨by rw [hr, hm]; decide, .inr rfl⟩, hr]
    exact requestToSend_pending_of_not_sends _ hsends hq.1
  rw [recomputeMode, abortPending_of_requestsConsistent s hq, hsnap, hcommit, forceListen, if_neg]
  rw [hmode]
  decide

/-- Everything `irq_raise` does where a sleeping chip requests LISTEN and the request bits are consistent. -/
theorem irqRaise_eq_raised (fl : Byte) (s : State) (hl : SleepRequestsListen s) (hq : RequestsConsistent s) :
    irqRaise fl s = raised fl s := by
  cases hw : wakes ((s.reg.canintf ||| fl) &&& s.reg.caninte) s with
  | false => exact irqRaiseWith_noWake _ _ _ hw
  | true =>
    obtain ⟨eff, t, heff, ht, e⟩ := irqRaise_wake fl s hw
    have hw2 := hw
    simp only [wakes, Bool.and_eq_true, decide_eq_true_eq, Bool.not_eq_true'] at hw2
    obtain ⟨hm, hb, hb2⟩ := hw2
    have hne : (s.reg.canintf ||| fl) &&& s.reg.caninte ≠ s.irqPrev := fun e => by
      rw [e, hb2] at hb
      cases hb
    have hmode : (((s.setCanintf (s.reg.canintf ||| fl)).setIrqPrev eff).setCanstat
        (setIcodField s.reg.canstat (icod eff))).mode = s.mode := by simp [State.mode]
    have hq2 : RequestsConsistent (((s.setCanintf (s.reg.canintf ||| fl)).setIrqPrev eff).setCanstat
        (setIcodField s.reg.canstat (icod eff))) :=
      requestsConsistent_congr hq (fun _ => rfl) rfl fun h => by rwa [sends_congr hmode] at h
    rw [e, ht, recomputeMode_wakeUp _ (hmode.trans hm) (hl hm) hq2, raised]
    dsimp only
    rw [if_neg hne, hw, if_pos rfl, ← setModeField_setIcodField, ← heff]
    rfl

end Sys2Proof.Machine
end

section
/-! SUPPORT. Every step keeps `Legal`: the modes, the interrupt state and the request bits. Flags may be raised from any
state that is `RaiseReady`; the mode controller may run from any state whose requested mode and ABAT bit were just
written. -/

namespace Sys2Proof.Machine

open Sys2Proof

/-! ### The interrupt state through receive path and arbiter -/

theorem onFrameAwake_interruptsCurrent (f : Frame) (s : State) (hm : s.mode ≠ modeSleep) (h : InterruptsCurrent s) :
    InterruptsCurrent (onFrameWith irqRaiseAwake f s).2 := by
  have hraise : ∀ fl (t : State), t.mode = s.mode → CodeCurrent t → InterruptsCurrent (irqRaiseAwake fl t) :=
    fun fl t ht hc => by
      rw [irqRaiseAwake_eq fl t (ht ▸ hm)]
      exact raised_interruptsCurrent fl t hc
  rcases onFrameWith_cases irqRaiseAwake f s with e | e | ⟨-, b, k, e⟩ | ⟨-, n, e⟩ <;> rw [e]
  · exact h
  · exact hraise _ s rfl h.2
  · exact hraise _ _ rfl h.2
  · exact hraise _ _ rfl h.2

theorem trySend_interruptsCurrent (n : Fin Config.nTx) (s : State) (h : InterruptsCurrent s) :
    InterruptsCurrent (trySend n s) := by
  unfold trySend
  split
  · cases hs : s.sends with
    | false => rwa [doSend_of_not_sends n s hs]
    | true =>
      obtain ⟨u, hu, e⟩ := doSend_of_sends n s hs
      have hmode : u.mode = s.mode := by
        rcases hu with rfl | rfl <;> simp
      have hcur : InterruptsCurrent u := by
        rcases hu with rfl | rfl
        · exact h
        · exact onFrameAwake_interruptsCurrent _ s (not_sleep_of_sends hs) h
      rw [e, irqRaiseAwake_eq _ _ (by simpa [hmode] using not_sleep_of_sends hs)]
      exact raised_interruptsCurrent _ _ hcur.2
  · exact h

theorem requestToSend_interruptsCurrent (m : BitVec 3) (s : State) (h : InterruptsCurrent s) :
    InterruptsCurrent (requestToSend m s) := by
  unfold requestToSend
  split
  · exact h
  · exact foldl_preserves InterruptsCurrent requestOne (fun t n ht => trySend_interruptsCurrent n _ ht) _ _ h

/-! ### Raising flags from a legal state -/

/-- `Legal`, but for `irq_prev`, which may be behind the effective set: what must hold where flags are raised. -/
def RaiseReady (s : State) : Prop :=
  ModesLegal s ∧ SleepRequestsListen s ∧ CodeCurrent s ∧ RequestsConsistent s

theorem raiseReady_of_legal {s : State} (h : Legal s) : RaiseReady s := by
  obtain ⟨hmodes, hsleep, hirq, hreq⟩ := h
  exact ⟨hmodes, hsleep, hirq.2, hreq⟩

theorem legal_raised (fl : Byte) {s : State} (h : RaiseReady s) : Legal (raised fl s) := by
  obtain ⟨⟨hmode, hreqMode⟩, hsleep, hcode, hreq⟩ := h
  have hreqMode2 : (raised fl s).reqMode = s.reqMode := congrArg modeField (raised_reg_canctrl fl s)
  have habat : (raised fl s).abat = s.abat := congrArg (bit · abatBit) (raised_reg_canctrl fl s)
  have htx : ∀ n : Fin Config.nTx, (raised fl s).reg.tx[n].ctrl = s.reg.tx[n].ctrl := fun n => by rw [raised_reg_tx]
  refine ⟨⟨?_, hreqMode2 ▸ hreqMode⟩, fun hs => ?_, raised_interruptsCurrent fl s hcode,
    requestsConsistent_congr hreq htx habat fun hs => ?_⟩
  · rcases raised_mode_cases fl s with e | ⟨-, e⟩ <;> rw [e]
    · exact hmode
    · decide
  · rcases raised_mode_cases fl s with e | ⟨-, e⟩
    · exact hreqMode2.trans (hsleep (e ▸ hs))
    · rw [e] at hs
      exact absurd hs (by decide)
  · rcases raised_mode_cases fl s with e | ⟨-, e⟩
    · rwa [sends_congr e] at hs
    · rw [State.sends, e] at hs
      exact absurd hs (by decide)

theorem legal_irqRaise (fl : Byte) {s : State} (h : RaiseReady s) : Legal (irqRaise fl s) := by
  rw [irqRaise_eq_raised fl s h.2.1 h.2.2.2]
  exact legal_raised fl h

theorem legal_onFrame (f : Frame) {s : State} (h : Legal s) : Legal (onFrame f s).2 := by
  have hr := raiseReady_of_legal h
  unfold onFrame
  rcases onFrameWith_cases irqRaise f s with e | e | ⟨-, b, k, e⟩ | ⟨-, n, e⟩ <;> rw [e]
  · exact h
  · exact legal_irqRaise _ hr
  · exact legal_irqRaise _ (show RaiseReady (s.setRx b (storedBuffer f b k s.reg.rx[b])) from hr)
  · exact legal_irqRaise _ (show RaiseReady (s.setEflg (setBit s.reg.eflg (rxovrBit n) true)) from hr)

/-! ### Arbitration and the mode controller -/

theorem legal_requestToSend (m : BitVec 3) {s : State} (h : Legal s) : Legal (requestToSend m s) := by
  obtain ⟨hmodes, hsleep, hirq, habtf, habat, hsend⟩ := h
  refine ⟨?_, ?_, requestToSend_interruptsCurrent m s hirq,
    requestToSend_requestsConsistent m s habtf habat fun hs n hn _ => ?_⟩
  · rwa [ModesLegal, requestToSend_mode, requestToSend_reqMode]
  · rwa [SleepRequestsListen, requestToSend_mode, requestToSend_reqMode]
  · obtain ⟨h0, h1⟩ := hsend ((sends_iff s).1 hs)
    rcases hn with rfl | rfl
    · exact h0
    · exact h1

/-- `Legal`, but for the request LISTEN of a sleeping chip, which the last step of the mode controller makes. -/
def LegalButForListen (s : State) : Prop := ModesLegal s ∧ InterruptsCurrent s ∧ RequestsConsistent s

/-- Committing a mode serves the requests of buffers 0 and 1, so none is left in a sending mode (R313). -/
theorem legalButForListen_commitMode (w : Bool) {s : State} (h : LegalButForListen s) :
    LegalButForListen (commitMode w s) := by
  unfold commitMode
  split
  · obtain ⟨hmodes, hirq, habtf, habat, -⟩ := h
    refine ⟨?_, requestToSend_interruptsCurrent _ _ ?_,
      requestToSend_requestsConsistent _ _ habtf habat fun _ n hn hb => ?_⟩
    · rw [ModesLegal, requestToSend_mode, requestToSend_reqMode, State.setCanstat_mode, modeField_setModeField]
      exact ⟨hmodes.2, hmodes.2⟩
    · obtain ⟨hprev, hcode, hpin⟩ := hirq
      exact ⟨hprev, (icodField_setModeField _ _).trans hcode, hpin⟩
    · rw [pendingBitmap_getLsbD] at hb
      have h2 : n ≠ 2 := by
        rcases hn with rfl | rfl <;> decide
      simpa [h2] using hb
  · exact h

theorem legal_forceListen {s : State} (h : LegalButForListen s) : Legal (forceListen s) := by
  obtain ⟨hmodes, hirq, hreq⟩ := h
  unfold forceListen
  split
  · next hm =>
    have hreqMode : (s.setCanctrl (setModeField s.reg.canctrl modeListen)).reqMode = modeListen := by simp
    have habat : (s.setCanctrl (setModeField s.reg.canctrl modeListen)).abat = s.abat :=
      bit_setModeField _ _ _ (by decide)
    refine ⟨⟨hmodes.1, ?_⟩, fun _ => hreqMode, hirq, requestsConsistent_congr hreq (fun _ => rfl) habat id⟩
    rw [hreqMode]
    decide
  · next hm => exact ⟨hmodes, fun hs => absurd hs hm, hirq, hreq⟩

/-- The mode controller makes a state legal whatever was written to canctrl: it needs nothing of ABAT or the requested
mode (R310 to R314). -/
theorem legal_recomputeMode (w : Bool) {s : State} (hmode : s.mode.toNat ≤ 4) (hirq : InterruptsCurrent s)
    (habtf : ∀ n, s.txreq n = true → s.abtf n = false)
    (hsend : s.sends = true → s.txreq 0 = false ∧ s.txreq 1 = false) : Legal (recomputeMode w s) := by
  have hreq := abortPending_requestsConsistent s habtf hsend
  have hirq2 : InterruptsCurrent (abortPending s) := by
    simpa [InterruptsCurrent, RegFile.effective] using hirq
  refine legal_forceListen (legalButForListen_commitMode w ?_)
  unfold snapRequest
  split
  · have habat : ((abortPending s).setCanctrl (setModeField (abortPending s).reg.canctrl (abortPending s).mode)).abat =
        (abortPending s).abat := bit_setModeField _ _ _ (by decide)
    refine ⟨?_, hirq2, requestsConsistent_congr hreq (fun _ => rfl) habat id⟩
    rw [ModesLegal, State.setCanctrl_mode, State.setCanctrl_reqMode, modeField_setModeField, abortPending_mode]
    exact ⟨hmode, hmode⟩
  · next hle => exact ⟨⟨by rwa [abortPending_mode], Nat.le_of_not_lt hle⟩, hirq2, hreq⟩

/-! ### Writing a register -/

/-- The slots whose byte `Legal` speaks of. -/
def legalSlot : Slot → Bool
  | .canstat | .canctrl | .caninte | .canintf | .tx _ .ctrl => true
  | _ => false

theorem txCtrl_setSlot (s : State) (sl : Slot) (v : Byte) (m : Fin Config.nTx) (h : sl ≠ .tx m .ctrl) :
    (s.setSlot sl v).reg.tx[m].ctrl = s.reg.tx[m].ctrl :=
  (RegFile.get_set s.reg sl (.tx m .ctrl) v).trans (if_neg h.symm)

theorem legal_setSlot {s : State} (h : Legal s) (sl : Slot) (v : Byte) (hsl : legalSlot sl = false) :
    Legal (s.setSlot sl v) := by
  obtain ⟨hmodes, hsleep, hirq, hreq⟩ := h
  have htx : ∀ n : Fin Config.nTx, (s.setSlot sl v).reg.tx[n].ctrl = s.reg.tx[n].ctrl := fun n =>
    txCtrl_setSlot s sl v n fun e => by simp [e, legalSlot] at hsl
  cases sl with
  | canstat | canctrl | caninte | canintf => cases hsl
  | _ => exact ⟨hmodes, hsleep, hirq, requestsConsistent_congr hreq htx rfl id⟩

/-- Writing tx[n].ctrl: the written request is dropped under ABAT, and served in a sending mode (R235, R236). -/
theorem legal_txCtrlWritten {s : State} (h : Legal s) (n : Fin Config.nTx) (v : Byte) :
    Legal (txCtrlWritten n (s.setSlot (.tx n .ctrl) v)) := by
  obtain ⟨hmodes, hsleep, hirq, hreq⟩ := h
  have hother : ∀ m, m ≠ n → (s.setSlot (.tx n .ctrl) v).reg.tx[m].ctrl = s.reg.tx[m].ctrl := fun m hm =>
    txCtrl_setSlot s _ v m fun e => by
      cases e
      exact hm rfl
  unfold txCtrlWritten
  split
  · refine ⟨hmodes, hsleep, hirq, requestsConsistent_of_other hreq n rfl rfl ?_ ?_ ?_⟩
    · intro m hm
      rw [txreq_setTxCtrlBit_txreq, if_neg hm, txreq_congr (hother m hm)]
    · intro m hm
      rw [abtf_setTxCtrlBit_txreq, abtf_congr (hother m hm)]
    · simp
  · next ha =>
    refine ⟨?_, ?_, trySend_interruptsCurrent n _ hirq,
      requestsConsistent_of_other hreq n (trySend_abat n _) (trySend_mode n _) ?_ ?_ ?_⟩
    · rwa [ModesLegal, trySend_mode, trySend_reqMode]
    · rwa [SleepRequestsListen, trySend_mode, trySend_reqMode]
    · intro m hm
      rw [trySend_txreq, if_neg (fun e => hm e.1), txreq_setTxCtrlBit_abtf, txreq_congr (hother m hm)]
    · intro m hm
      rw [trySend_abtf, abtf_setTxCtrlBit_abtf, if_neg hm, abtf_congr (hother m hm)]
    · intro ht
      rw [sends_congr (trySend_mode n _), trySend_abat]
      refine ⟨by simp, Bool.eq_false_of_not_eq_true ha, Bool.eq_false_of_not_eq_true fun hs => ?_⟩
      rw [trySend_txreq, if_pos ⟨rfl, hs⟩] at ht
      cases ht

/-- canstat is read-only (R35, R82). -/
theorem maskedStore_canstat (a : Addr) (v : Byte) (s : State) (h : (resolve a).slot = .canstat) :
    maskedStore a v s = s := by
  have hold : mergeMasked (s.raw a) v (resolve a).writeMask = s.reg.get (resolve a).slot := by
    rw [writeMask_canstat a h]
    exact mergeMasked_zero _ _
  rw [maskedStore, hold]
  exact congrArg (fun r => { s with reg := r }) (RegFile.set_get s.reg _)

theorem legal_update (a : Addr) (v : Byte) {s : State} (h : Legal s) : Legal (update a v s) := by
  have hr := raiseReady_of_legal h
  have hplain : legalSlot (resolve a).slot = false → Legal (maskedStore a v s) := legal_setSlot h _ _
  unfold update
  cases hsl : (resolve a).slot with
  | canstat =>
    rw [maskedStore_canstat a v s hsl]
    exact h
  | canctrl =>
    rw [maskedStore, hsl]
    obtain ⟨hmodes, -, hirq, habtf, -, hsend⟩ := h
    exact legal_recomputeMode false hmodes.1 hirq habtf fun hs => hsend ((sends_iff s).1 hs)
  | caninte =>
    rw [maskedStore, hsl]
    exact legal_irqRaise _ (show RaiseReady (s.setSlot .caninte _) from hr)
  | canintf =>
    rw [maskedStore, hsl]
    exact legal_irqRaise _ (show RaiseReady (s.setSlot .canintf _) from hr)
  | bfpctrl => exact hplain (by rw [hsl]; rfl)
  | tx n b =>
    cases b with
    | ctrl =>
      rw [maskedStore, hsl]
      exact legal_txCtrlWritten h n _
    | _ => exact hplain (by rw [hsl]; rfl)
  | rx n b =>
    have hp := hplain (by rw [hsl]; rfl)
    cases b with
    | ctrl =>
      unfold sideEffect
      dsimp only
      split
      · exact hp
      · exact hp
    | _ => exact hp
  | _ => exact hplain (by rw [hsl]; rfl)

/-! ### Every step -/

theorem chipInvariant_legal : ChipInvariant Legal where
  congr {s t} hs hreg hprev hpin := by
    cases s
    cases t
    cases hreg
    cases hprev
    cases hpin
    exact hs
  reset := by decide
  update_keeps a v _ hs := legal_update a v hs
  requestToSend_keeps m _ hs := legal_requestToSend m hs
  clearRxFlag_keeps i s hs :=
    have hr : RaiseReady s := raiseReady_of_legal hs
    legal_irqRaise 0x00 (show RaiseReady (s.setCanintf (setBit s.reg.canintf (rxifBit i) false)) from hr)
  onFrame_keeps f _ hs := legal_onFrame f hs

/-- Settles O55: `Legal` is a chip invariant. -/
theorem legalKeptByStep : Obligations.LegalKeptByStep :=
  fun _ _ hs hstep => chipInvariant_legal.step_keeps hs hstep

end Sys2Proof.Machine
end

section
/-! SUPPORT. The state after reset: what every slot holds, and that every `DeviceReset` leads there (R70, R370 to
R373). -/

namespace Sys2Proof.Machine

open Sys2Proof

theorem Buffer.get_reset (b : BufByte) : Buffer.reset.get b = 0x00 := by
  cases b with
  | id j => cases j <;> rfl
  | data j => simp [Buffer.get, Buffer.reset]
  | _ => rfl

theorem IdRegs.get_reset (j : IdByte) : IdRegs.reset.get j = 0x00 := by
  cases j <;> rfl

/-- After reset every slot but canstat and canctrl holds 0x00 (R70). -/
theorem RegFile.get_reset (sl : Slot) :
    RegFile.reset.get sl = if sl = .canstat then 0x80 else if sl = .canctrl then 0x87 else 0x00 := by
  cases sl with
  | tx n b => simpa [RegFile.get, RegFile.reset] using Buffer.get_reset b
  | rx n b => simpa [RegFile.get, RegFile.reset] using Buffer.get_reset b
  | filter k j => simpa [RegFile.get, RegFile.reset] using IdRegs.get_reset j
  | mask k j => simpa [RegFile.get, RegFile.reset] using IdRegs.get_reset j
  | _ => rfl

/-- Low nibble 14 of an address is canstat, in every row (R82, R86). -/
theorem resolve_slot_canstat_iff : ∀ a : Addr, (resolve a).slot = .canstat ↔ a.toNat % 16 = 14 := by
  decide +kernel

/-- Low nibble 15 of an address is canctrl, in every row (R82, R86). -/
theorem resolve_slot_canctrl_iff : ∀ a : Addr, (resolve a).slot = .canctrl ↔ a.toNat % 16 = 15 := by
  decide +kernel

theorem raw_reset (a : Addr) :
    State.reset.raw a = if a.toNat % 16 = 14 then 0x80 else if a.toNat % 16 = 15 then 0x87 else 0x00 := by
  have h : State.reset.raw a =
      if (resolve a).slot = .canstat then 0x80 else if (resolve a).slot = .canctrl then 0x87 else 0x00 :=
    RegFile.get_reset _
  simpa only [resolve_slot_canstat_iff, resolve_slot_canctrl_iff] using h

/-- `DeviceReset` keeps nothing but the events to come and the output so far (R371). -/
theorem deviceReset_eq (s : State) : deviceReset s = { State.reset with pending := s.pending, out := s.out } := rfl

/-- Settles O54: `deviceReset_eq` for any state, and the values of R70 by slot. -/
theorem resetIsOneState : Obligations.ResetIsOneState := by
  refine ⟨fun s => rfl, fun s rest hp => ?_, raw_reset, by decide⟩
  unfold step
  rw [hp]
  exact congrArg Host.Outcome.next (deviceReset_eq (s.beginEvent rest))

/-- Settles O57: the base cases of the invariants. -/
theorem invariantsHoldAtReset : Obligations.InvariantsHoldAtReset :=
  ⟨chipInvariant_legal.reset, (reservedBitsClear_iff _).2 registerInvariant_reservedSlotsClear.reset,
    registerInvariant_buktMirrored.reset⟩

end Sys2Proof.Machine
end

section
/-! SUPPORT. The address map and access by address: what the address decoder answers, row by row (R82 to R86), what the
masked store changes (R92), and which reads the gate hides (R94). -/

namespace Sys2Proof.Machine

open Sys2Proof

/-! ### The masked store -/

/-- The addressed byte is merged under the write mask (R92). -/
theorem raw_maskedStore (a : Addr) (v : Byte) (s : State) :
    (maskedStore a v s).raw a = mergeMasked (s.raw a) v (resolve a).writeMask :=
  (raw_setSlot s _ _ a).trans (if_pos rfl)

/-- Only the addressed slot is stored to. -/
theorem get_maskedStore_of_ne (a : Addr) (v : Byte) (s : State) {sl : Slot} (h : sl ≠ (resolve a).slot) :
    (maskedStore a v s).reg.get sl = s.reg.get sl :=
  (RegFile.get_set s.reg _ sl _).trans (if_neg h)

/-- A register with write mask 0x00 is read-only (R84). -/
theorem maskedStore_of_writeMask_zero (a : Addr) (v : Byte) (s : State) (h : (resolve a).writeMask = 0x00) :
    maskedStore a v s = s := by
  have hold : mergeMasked (s.raw a) v (resolve a).writeMask = s.reg.get (resolve a).slot := by
    rw [h]
    exact mergeMasked_zero _ _
  rw [maskedStore, hold]
  exact congrArg (fun r => { s with reg := r }) (RegFile.set_get s.reg _)

/-- Settles O27: the store is one `setSlot` of the merged byte. -/
theorem maskedStoreLaw : Obligations.MaskedStoreLaw := fun a v s =>
  ⟨raw_maskedStore a v s, fun _ h => get_maskedStore_of_ne a v s h, rfl, maskedStore_of_writeMask_zero a v s, rfl⟩

/-! ### The read gate -/

/-- The config-only marks of the address map: filters, txrtsctrl, masks and cnf3 to cnf1 (R84, R94). -/
theorem resolve_configOnlyRead_iff : ∀ a : Addr, (resolve a).configOnlyRead = true ↔
    a.toNat < 0x0C ∨ a.toNat = 0x0D ∨ (0x10 ≤ a.toNat ∧ a.toNat < 0x1C) ∨ (0x20 ≤ a.toNat ∧ a.toNat < 0x2B) := by
  decide +kernel

/-- Settles O30: the gate of `memRead` tests the mark, which `resolve_configOnlyRead_iff` locates. -/
theorem configOnlyGate : Obligations.ConfigOnlyGate := by
  intro a s
  simp only [memRead, resolve_configOnlyRead_iff]

/-! ### The address map -/

/-- The offset of a byte in an identifier group (R82). -/
def idByteOffset : IdByte → Nat
  | .sidh => 0
  | .sidl => 1
  | .eid8 => 2
  | .eid0 => 3

/-- The offset of a byte in a buffer (R22). -/
def bufByteOffset : BufByte → Nat
  | .ctrl => 0
  | .id j => 1 + idByteOffset j
  | .dlc => 5
  | .data j => 6 + j.val

/-- The base address of a slot, the lowest one where it stands (R84, R85). -/
def baseAddress : Slot → Addr
  | .canstat => 0x0E
  | .canctrl => 0x0F
  | .bfpctrl => 0x0C
  | .txrtsctrl => 0x0D
  | .tecReg => 0x1C
  | .recReg => 0x1D
  | .cnf3 => 0x28
  | .cnf2 => 0x29
  | .cnf1 => 0x2A
  | .caninte => 0x2B
  | .canintf => 0x2C
  | .eflg => 0x2D
  | .tx n b => BitVec.ofNat 7 (0x30 + 16 * n.val + bufByteOffset b)
  | .rx n b => BitVec.ofNat 7 (0x60 + 16 * n.val + bufByteOffset b)
  | .filter k j => BitVec.ofNat 7 ((if k.val < 3 then 4 * k.val else 0x10 + 4 * (k.val - 3)) + idByteOffset j)
  | .mask k j => BitVec.ofNat 7 (0x20 + 4 * k.val + idByteOffset j)

/-- Outside the two columns of canstat and canctrl, an address is the base address of its slot (R86). -/
theorem baseAddress_resolve_slot : ∀ a : Addr, a.toNat % 16 ≠ 14 → a.toNat % 16 ≠ 15 →
    baseAddress (resolve a).slot = a := by
  decide +kernel

/-- Settles O28: canstat and canctrl fill their columns, and any other slot determines its address. -/
theorem addressAliases : Obligations.AddressAliases := by
  intro a b
  have hstat := resolve_slot_canstat_iff
  have hctrl := resolve_slot_canctrl_iff
  constructor
  · intro h
    by_cases h14 : a.toNat % 16 = 14
    · exact .inr (.inl ⟨h14, (hstat b).1 (h ▸ (hstat a).2 h14)⟩)
    by_cases h15 : a.toNat % 16 = 15
    · exact .inr (.inr ⟨h15, (hctrl b).1 (h ▸ (hctrl a).2 h15)⟩)
    have hb14 : b.toNat % 16 ≠ 14 := fun e => h14 ((hstat a).1 (h.trans ((hstat b).2 e)))
    have hb15 : b.toNat % 16 ≠ 15 := fun e => h15 ((hctrl a).1 (h.trans ((hctrl b).2 e)))
    exact .inl <| calc
      a = baseAddress (resolve a).slot := (baseAddress_resolve_slot a h14 h15).symm
      _ = baseAddress (resolve b).slot := congrArg baseAddress h
      _ = b := baseAddress_resolve_slot b hb14 hb15
  · rintro (rfl | ⟨ha, hb⟩ | ⟨ha, hb⟩)
    · rfl
    · rw [(hstat a).2 ha, (hstat b).2 hb]
    · rw [(hctrl a).2 ha, (hctrl b).2 hb]

/-- Rows 0x3_ to 0x5_ hold the TX buffers (R82). -/
theorem resolve_txRow : ∀ (n : Fin Config.nTx) (lo : Fin 14),
    resolve (BitVec.ofNat 7 (0x30 + 16 * n.val + lo.val)) = resolveTx n lo.val := by
  decide

/-- Rows 0x6_ and 0x7_ hold the RX buffers (R82). -/
theorem resolve_rxRow : ∀ (n : Fin Config.nRx) (lo : Fin 14),
    resolve (BitVec.ofNat 7 (0x60 + 16 * n.val + lo.val)) = resolveRx n lo.val := by
  decide

/-- Settles O29: the six parts of the address map of R84, the buffers by their rows. -/
theorem baseAddresses : Obligations.BaseAddresses := by
  refine ⟨?filters, ?masks, ?txBuffers, ?rxBuffers, ?everyRow, ?singleRegisters⟩
  case filters => decide
  case masks => decide
  case txBuffers =>
    intro n j
    rw [resolve_txRow]
    fin_cases j <;> rfl
  case rxBuffers =>
    intro n j
    rw [resolve_rxRow]
    fin_cases n <;> fin_cases j <;> rfl
  case everyRow => decide
  case singleRegisters => decide

end Sys2Proof.Machine
end

section
/-! SUPPORT. The command byte: decoder and encoder undo each other (R123 to R125), every command answers 0xFF to its own
byte (R124), and the step that takes a command byte executes the command (R121). -/

namespace Sys2Proof

/-! ### The byte of each command with fields -/

theorem toNat_encodeByte_rdrxb : ∀ n m : BitVec 1,
    (encodeByte (.rdrxb n m)).toNat = 0x90 + 4 * n.toNat + 2 * m.toNat := by
  decide

theorem toNat_encodeByte_ldtxbLow : ∀ bc : BitVec 2, (encodeByte (.ldtxbLow bc)).toNat = 0x40 + bc.toNat := by
  decide

theorem toNat_encodeByte_ldtxbHigh : ∀ c : BitVec 1, (encodeByte (.ldtxbHigh c)).toNat = 0x44 + c.toNat := by
  decide

theorem toNat_encodeByte_rts : ∀ nnn : BitVec 3, (encodeByte (.rts nnn)).toNat = 0x80 + nnn.toNat := by
  decide

/-- Every command but `invalid` has one of the valid bytes of R125. -/
theorem encodeByte_mem_validCommandBytes {i : Instr} (hi : ∀ b, i ≠ .invalid b) :
    encodeByte i ∈ validCommandBytes := by
  cases i with
  | rdrxb n m =>
    revert n m
    decide
  | ldtxbLow bc =>
    revert bc
    decide
  | ldtxbHigh c =>
    revert c
    decide
  | rts nnn =>
    revert nnn
    decide
  | invalid b => exact absurd rfl (hi b)
  | _ => decide

/-! ### The decoder and the encoder -/

theorem decode_cons (b : Byte) (rest : List Byte) : decode (b :: rest) = .ok (decodeByte b, rest) := rfl

/-- Encoding undoes decoding, branch by branch of R124: a branch without fields fixes the byte, and in the others the
fields read out of the byte put it together again. -/
theorem encodeByte_decodeByte (b : Byte) : encodeByte (decodeByte b) = b := by
  unfold decodeByte
  split_ifs with hreset hread hwrite hrdrxb hlow hhigh hrts hrdstat hrxstat hbitmod
  · exact hreset.symm
  · exact hread.symm
  · exact hwrite.symm
  · rcases hrdrxb with rfl | rfl | rfl | rfl <;> rfl
  · simp only [List.mem_cons, List.not_mem_nil, or_false] at hlow
    apply BitVec.eq_of_toNat_eq
    rw [toNat_encodeByte_ldtxbLow, BitVec.extractLsb'_toNat]
    omega
  · rcases hhigh with rfl | rfl <;> rfl
  · apply BitVec.eq_of_toNat_eq
    rw [toNat_encodeByte_rts, BitVec.extractLsb'_toNat]
    omega
  · exact hrdstat.symm
  · exact hrxstat.symm
  · exact hbitmod.symm
  · rfl

/-- The valid bytes of R125 decode to a command of one of the first ten rows. -/
theorem decodeByte_row_lt_of_valid : ∀ b ∈ validCommandBytes, (decodeByte b).row < 10 := by
  decide

/-- R125, R205: the invalid commands are the bytes that are not valid, and keep their byte. -/
theorem decodeByte_eq_invalid_iff (b c : Byte) : decodeByte b = .invalid c ↔ c = b ∧ b ∉ validCommandBytes := by
  have henc := encodeByte_decodeByte b
  constructor
  · intro h
    rw [h] at henc
    refine ⟨henc, fun hvalid => ?_⟩
    have hrow := decodeByte_row_lt_of_valid b hvalid
    rw [h] at hrow
    exact lt_irrefl _ hrow
  · rintro ⟨rfl, hinvalid⟩
    by_contra hne
    refine hinvalid (henc ▸ encodeByte_mem_validCommandBytes fun d hd => hne ?_)
    rw [hd] at henc
    rw [hd, show d = c from henc]

theorem decodeByte_wellFormed (b : Byte) : (decodeByte b).wellFormed = true := by
  cases h : decodeByte b with
  | invalid c =>
    obtain ⟨rfl, hinvalid⟩ := (decodeByte_eq_invalid_iff b c).1 h
    simpa [Instr.wellFormed] using hinvalid
  | _ => rfl

/-- Decoding undoes encoding: field by field, and for an invalid byte by `decodeByte_eq_invalid_iff`. -/
theorem decodeByte_encodeByte {i : Instr} (hi : i.wellFormed = true) : decodeByte (encodeByte i) = i := by
  cases i with
  | rdrxb n m =>
    revert n m
    decide
  | ldtxbLow bc =>
    revert bc
    decide
  | ldtxbHigh c =>
    revert c
    decide
  | rts nnn =>
    revert nnn
    decide
  | invalid b => exact (decodeByte_eq_invalid_iff b b).2 ⟨rfl, by simpa [Instr.wellFormed] using hi⟩
  | _ => rfl

/-- A well-formed command is decoded from its own byte and no other. -/
theorem decodeByte_eq_iff {i : Instr} (hi : i.wellFormed = true) (b : Byte) :
    decodeByte b = i ↔ b = encodeByte i := by
  constructor
  · rintro rfl
    exact (encodeByte_decodeByte b).symm
  · rintro rfl
    exact decodeByte_encodeByte hi

theorem decodeByte_eq_iff_toNat {i : Instr} (hi : i.wellFormed = true) {k : Nat} (hk : (encodeByte i).toNat = k)
    (b : Byte) : decodeByte b = i ↔ b.toNat = k := by
  rw [decodeByte_eq_iff hi, ← hk, BitVec.toNat_inj]

theorem decode_encode_append {i : Instr} (hi : i.wellFormed = true) (rest : List Byte) :
    decode (encode i ++ rest) = .ok (i, rest) := by
  rw [encode, List.singleton_append, decode_cons, decodeByte_encodeByte hi]

/-- Settles O3: `decode_encode_append` one way, `encodeByte_decodeByte` the other. -/
theorem decodeAndEncodeAreInverse : Obligations.DecodeAndEncodeAreInverse :=
  ⟨fun _ rest hi => decode_encode_append hi rest,
    fun b => ⟨decodeByte_wellFormed b, congrArg (fun c => [c]) (encodeByte_decodeByte b)⟩⟩

/-- Settles O5: each byte is the encoding of its command, so `decode_encode_append` reads it back. -/
theorem sampleCommandBytesDecode : Obligations.SampleCommandBytesDecode :=
  ⟨decode_encode_append (i := .reset) rfl [0x55], decode_encode_append (i := .read) rfl [0x0E],
    decode_encode_append (i := .write) rfl [], decode_encode_append (i := .bitmod) rfl [],
    decode_encode_append (i := .rdrxb 1 1) rfl [], decode_encode_append (i := .rdrxb 1 0) rfl [],
    decode_encode_append (i := .ldtxbLow 0b10) rfl [], decode_encode_append (i := .ldtxbHigh 1) rfl [],
    decode_encode_append (i := .rts 0b110) rfl [], decode_encode_append (i := .rdstat) rfl [],
    decode_encode_append (i := .rxstat) rfl [], decode_encode_append (i := .invalid 0x46) rfl []⟩

/-- A table word of 8 bits is laid out as its one byte. -/
theorem tableBytes_byte (b : Byte) : tableBytes 8 b.toNat = [b] := by
  simp [tableBytes, wordBytes]

end Sys2Proof

namespace Sys2Proof.Machine

open Sys2Proof

/-! ### The command byte in the machine -/

/-- Every command completes, and the last thing it does is to put 0xFF out (R124). -/
theorem exec_eq_next_reply (i : Instr) (s : State) : ∃ t : State, exec i s = .next (t.reply 0xFF) := by
  cases i <;> exact ⟨_, rfl⟩

/-- Settles O1: `decodeByte_eq_iff` at each command, and `exec_eq_next_reply`. -/
theorem commandMapAndFirstOutput : Obligations.CommandMapAndFirstOutput := by
  refine ⟨fun b => ⟨decodeByte_eq_iff rfl b, decodeByte_eq_iff rfl b, decodeByte_eq_iff rfl b,
    fun n m => decodeByte_eq_iff_toNat rfl (toNat_encodeByte_rdrxb n m) b,
    fun bc => decodeByte_eq_iff_toNat rfl (toNat_encodeByte_ldtxbLow bc) b,
    fun c => decodeByte_eq_iff_toNat rfl (toNat_encodeByte_ldtxbHigh c) b,
    fun nnn => decodeByte_eq_iff_toNat rfl (toNat_encodeByte_rts nnn) b,
    decodeByte_eq_iff rfl b, decodeByte_eq_iff rfl b, decodeByte_eq_iff rfl b,
    fun c => decodeByte_eq_invalid_iff b c⟩, fun i s => ?_⟩
  obtain ⟨t, ht⟩ := exec_eq_next_reply i s
  exact ⟨t.reply 0xFF, ht, t.reply_out_miso 0xFF⟩

/-- A step takes the oldest event off the queue and handles it (R8). -/
theorem step_of_pending_cons {s : State} {e : Event} {rest : List Event} (h : s.pending = e :: rest) :
    step s = deliver e (s.beginEvent rest) := by
  rw [step, h]

/-- A selected chip awaiting a command takes the byte as a command byte (R121). -/
theorem spiByte_awaitingInstruction {s : State} (hcs : s.cs = .asserted) (hst : s.spi.state = .awaitingInstruction)
    (b : Byte) : spiByte b s = exec (decodeByte b) s := by
  simp [spiByte, hcs, hst]

theorem step_commandByte {s : State} {b : Byte} {rest : List Event} (h : ClocksByte s .awaitingInstruction b rest) :
    step s = exec (decodeByte b) (s.beginEvent rest) := by
  obtain ⟨hcs, hst, hpending⟩ := h
  rw [step_of_pending_cons hpending]
  exact spiByte_awaitingInstruction (s := s.beginEvent rest) hcs hst b

/-- The byte of a placed command is the next one the selected chip is clocked (log 3). -/
theorem clocksByte_withFetchWord (s : State) (b : Byte) :
    ClocksByte (s.withFetchWord 8 b.toNat) .awaitingInstruction b s.pending :=
  ⟨rfl, rfl, by rw [State.withFetchWord, tableBytes_byte]; rfl⟩

/-- Settles O6: `step_commandByte` for the byte given, and for the byte that `withFetchWord` places. -/
theorem stepRunsDecodedCommand : Obligations.StepRunsDecodedCommand := by
  constructor
  · intro s b rest i hclocks hdecode _
    rw [decode_cons] at hdecode
    obtain ⟨rfl, -⟩ := Prod.mk.inj (Except.ok.inj hdecode)
    exact step_commandByte hclocks
  · intro s i hi
    rw [step_commandByte (clocksByte_withFetchWord s (encodeByte i)), decodeByte_encodeByte hi]
    rfl

end Sys2Proof.Machine
end

section
/-! SUPPORT. READ, WRITE and BIT MODIFY (40_spi_register_access.md): what each operand and data byte of their
transactions does, and what a whole WRITE and a whole READ transaction do to a register without side effect. -/

namespace Sys2Proof.Machine

open Sys2Proof

/-! ### The cursor, the protocol state and the merge -/

theorem latchAddress_eq_setWidth (b : Byte) : latchAddress b = b.setWidth 7 :=
  (BitVec.setWidth_eq_extractLsb' (by decide)).symm

/-- An address sent as a byte is latched as it is (R152). -/
theorem latchAddress_setWidth (a : Addr) : latchAddress (a.setWidth 8) = a := by
  rw [latchAddress_eq_setWidth, BitVec.setWidth_setWidth_of_le _ (by decide), BitVec.setWidth_eq]

theorem nextAddress_eq_ofNat (a : Addr) : nextAddress a = BitVec.ofNat 7 ((a.toNat + 1) % 128) :=
  BitVec.eq_of_toNat_eq (by simp [nextAddress, BitVec.toNat_add])

/-- Entering the protocol state the session is in changes nothing. -/
theorem State.goto_self {s : State} {st : SpiState} (h : s.spi.state = st) : s.goto st = s := by
  subst h
  rfl

/-- The byte that BIT MODIFY writes is the masked merge of R92, under the modify mask (R165). -/
theorem modifyMerge_eq_mergeMasked (b : Byte) (s : State) :
    modifyMerge b s = mergeMasked (s.raw s.spi.address) b
      (if (resolve s.spi.address).bitModifiable then s.spi.modifyMask else 0xFF) :=
  BitVec.or_comm _ _

/-- A write to a register without side effect is the masked store (R237). -/
theorem update_plain {a : Addr} (h : plainSlot (resolve a).slot = true) (v : Byte) (s : State) :
    update a v s = maskedStore a v s :=
  sideEffect_plain _ _ h

/-- canstat is read-only, so no masked store changes the active mode (R35). -/
@[simp] theorem maskedStore_mode (a : Addr) (v : Byte) (s : State) : (maskedStore a v s).mode = s.mode := by
  by_cases h : (resolve a).slot = .canstat
  · rw [maskedStore_canstat a v s h]
  · exact congrArg modeField (get_maskedStore_of_ne a v s (Ne.symm h))

/-- A read looks at the register file only (R94, R95). -/
theorem memRead_congr {s t : State} (h : t.reg = s.reg) (a : Addr) : memRead a t = memRead a s := by
  have hmode : t.mode = s.mode := congrArg (fun r : RegFile => modeField r.canstat) h
  have hraw : t.raw a = s.raw a := congrArg (fun r : RegFile => r.get (resolve a).slot) h
  rw [memRead, memRead, hmode, hraw]

/-! ### Operand bytes -/

section
variable {s : State} {b : Byte} {rest : List Event}

theorem step_awaitingAddress (h : ClocksByte s .awaitingAddress b rest) :
    step s = .next (awaitingAddressByte b (s.beginEvent rest)) := by
  obtain ⟨hcs, hst, hpending⟩ := h
  simp [step_of_pending_cons hpending, deliver, spiByte, hcs, hst]

theorem step_awaitingModifyAddress (h : ClocksByte s .awaitingModifyAddress b rest) :
    step s = .next (modifyAddressByte b (s.beginEvent rest)) := by
  obtain ⟨hcs, hst, hpending⟩ := h
  simp [step_of_pending_cons hpending, deliver, spiByte, hcs, hst]

theorem step_awaitingModifyMask (h : ClocksByte s .awaitingModifyMask b rest) :
    step s = .next (modifyMaskByte b (s.beginEvent rest)) := by
  obtain ⟨hcs, hst, hpending⟩ := h
  simp [step_of_pending_cons hpending, deliver, spiByte, hcs, hst]

/-! ### Data bytes, without the transition to the protocol state they are in -/

/-- In `ReadingData` the byte answers the gated read and moves the cursor (R159). -/
theorem step_readingData (h : ClocksByte s .readingData b rest) :
    step s = .next (((s.beginEvent rest).reply (memRead s.spi.address s)).setAddress (nextAddress s.spi.address)) := by
  obtain ⟨hcs, hst, hpending⟩ := h
  have hbyte : step s = .next (readingDataByte (s.beginEvent rest)) := by
    simp [step_of_pending_cons hpending, deliver, spiByte, hcs, hst]
  exact hbyte.trans (congrArg _ (State.goto_self hst))

/-- In `WritingData` the byte is the register write, after which the cursor moves (R155). -/
theorem step_writingData (h : ClocksByte s .writingData b rest) :
    step s = .next
      (((update s.spi.address b (s.beginEvent rest)).setAddress (nextAddress s.spi.address)).reply 0xFF) := by
  obtain ⟨hcs, hst, hpending⟩ := h
  have hbyte : step s = .next (writingDataByte b (s.beginEvent rest)) := by
    simp [step_of_pending_cons hpending, deliver, spiByte, hcs, hst]
  rw [hbyte, writingDataByte, State.goto_self] <;> simp [hst, spiFill]

/-- In `ModifyingData` the byte is the register write of the merged byte (R164, R165). -/
theorem step_modifyingData (h : ClocksByte s .modifyingData b rest) :
    step s = .next ((update s.spi.address (modifyMerge b s) (s.beginEvent rest)).reply 0xFF) := by
  obtain ⟨hcs, hst, hpending⟩ := h
  have hbyte : step s = .next (modifyingDataByte b (s.beginEvent rest)) := by
    simp [step_of_pending_cons hpending, deliver, spiByte, hcs, hst]
  rw [hbyte, modifyingDataByte, State.goto_self]
  · rfl
  · simp [hst]

end

/-! ### The statements about single bytes

Three stand under `RegisterAccess`, for the model has functions of their names. -/

/-- Settles O16: the three command bytes and the arms of `exec` they reach. -/
theorem readWriteBitmodCommandBytes : Obligations.ReadWriteBitmodCommandBytes :=
  ⟨decodeByte_encodeByte (i := .read) rfl, decodeByte_encodeByte (i := .write) rfl,
    decodeByte_encodeByte (i := .bitmod) rfl, fun _ => ⟨rfl, rfl, rfl⟩⟩

/-- Settles O9: the steps of the three operand states, with the latched address read as `b.setWidth 7`. -/
theorem addressAndMaskBytes : Obligations.AddressAndMaskBytes := by
  intro s b rest
  rw [← latchAddress_eq_setWidth]
  exact ⟨step_awaitingAddress, step_awaitingModifyAddress, step_awaitingModifyMask⟩

/-- Settles O10: `step_readingData`, with the cursor counted modulo 128. -/
theorem RegisterAccess.readingDataByte : Obligations.ReadingDataByte := by
  intro s b rest h
  rw [← nextAddress_eq_ofNat]
  exact step_readingData h

/-- Settles O11: `step_writingData`; the write leaves session, chip-select and queue alone. -/
theorem RegisterAccess.writingDataByte : Obligations.WritingDataByte := by
  intro s b rest h
  have hspi := update_spi s.spi.address b (s.beginEvent rest)
  refine ⟨_, rfl, hspi, update_cs _ _ _, update_pending _ _ _, ?_⟩
  rw [step_writingData h, State.setAddress, hspi, nextAddress_eq_ofNat]
  rfl

/-- A register is bit-modifiable exactly if it is one of the thirteen of R166. -/
theorem resolve_bitModifiable_iff : ∀ a : Addr, (resolve a).bitModifiable = true ↔
    (resolve a).slot ∈ [Slot.canctrl, .bfpctrl, .cnf1, .cnf2, .cnf3, .caninte, .canintf, .eflg,
      .tx 0 .ctrl, .tx 1 .ctrl, .tx 2 .ctrl, .rx 0 .ctrl, .rx 1 .ctrl] := by
  decide +kernel

/-- Settles O12: `step_modifyingData`; without side effect the stored byte is merged twice, under the modify mask and
then under the write mask. -/
theorem RegisterAccess.modifyingDataByte : Obligations.ModifyingDataByte := by
  refine ⟨fun s b rest h => ⟨_, _, _, rfl, rfl, rfl, update_spi _ _ _, update_cs _ _ _, update_pending _ _ _,
    step_modifyingData h, fun hplain i => ?_⟩, resolve_bitModifiable_iff⟩
  have hmerge := modifyMerge_eq_mergeMasked b s
  rw [modifyMerge] at hmerge
  rw [update_plain hplain, raw_maskedStore, hmerge, bit_mergeMasked, bit_mergeMasked]
  cases bit (resolve s.spi.address).writeMask i <;> rfl

/-! ### Whole transactions -/

theorem run_succ_of_step {s t : State} (h : step s = .next t) (k : Nat) :
    Host.Core.run Sys2Proof.core (k + 1) s = Host.Core.run Sys2Proof.core k t := by
  have hcore : Sys2Proof.core.step s = .next t := h
  simp only [Host.Core.run, hcore]

/-- The falling edge of chip-select begins a transaction (R214). -/
theorem step_csAssert {s : State} {rest : List Event} (hcs : s.cs = .deasserted) (hp : s.pending = .csAssert :: rest) :
    step s = .next ((((s.beginEvent rest).setCs .asserted).goto .awaitingInstruction).setRxMemo none) := by
  rw [step_of_pending_cons hp, deliver, csAssert, if_neg (by simp [hcs])]

/-- Without a READ RX BUFFER in it, the end of a transaction touches no register (R215). -/
theorem step_csDeassert {s : State} {rest : List Event} (hcs : s.cs = .asserted) (hmemo : s.spi.rxMemo = none)
    (hp : s.pending = .csDeassert :: rest) :
    step s = .next (((s.beginEvent rest).setCs .deasserted).setRxMemo none) := by
  simp [step_of_pending_cons hp, deliver, csDeassert, hcs, hmemo]

/-- WRITE (`write`) or READ, which differ in `addr_then_write` only (R150, R151). -/
def accessCommand (write : Bool) : Instr := if write then .write else .read

theorem step_accessCommand {s : State} {write : Bool} {rest : List Event}
    (h : ClocksByte s .awaitingInstruction (encodeByte (accessCommand write)) rest) :
    step s = .next ((((s.beginEvent rest).setAddrThenWrite write).goto .awaitingAddress).reply 0xFF) := by
  have hwf : (accessCommand write).wellFormed = true := by cases write <;> rfl
  rw [step_commandByte h, decodeByte_encodeByte hwf]
  cases write <;> rfl

/-- The chip after chip-select, the command byte of WRITE (`write`) or READ, and the address `a` (R150 to R152). -/
def State.accessing (s : State) (write : Bool) (a : Addr) (rest : List Event) : State :=
  { s with
    cs := .asserted
    spi := { s.spi with
      state := if write then .writingData else .readingData, addrThenWrite := write, address := a, rxMemo := none }
    pending := rest
    out := { Output.empty with miso := some 0xFF } }

theorem State.accessing_address (s : State) (write : Bool) (a : Addr) (rest : List Event) :
    (s.accessing write a rest).spi.address = a := rfl

/-- The first three events of a WRITE or READ transaction touch the session only. -/
theorem run_accessing {s : State} {write : Bool} {a : Addr} {rest : List Event} (hcs : s.cs = .deasserted)
    (hp : s.pending = .csAssert :: .spiByte (encodeByte (accessCommand write)) :: .spiByte (a.setWidth 8) :: rest)
    (k : Nat) : Host.Core.run Sys2Proof.core (k + 3) s = Host.Core.run Sys2Proof.core k (s.accessing write a rest) := by
  rw [run_succ_of_step (step_csAssert hcs hp)]
  refine (run_succ_of_step (step_accessCommand ⟨rfl, rfl, rfl⟩) _).trans ?_
  refine (run_succ_of_step (step_awaitingAddress ⟨rfl, rfl, rfl⟩) _).trans ?_
  rw [awaitingAddressByte, latchAddress_setWidth]
  rfl

/-- A whole WRITE transaction of one data byte, at a register without side effect, is the masked store. -/
theorem run_writeTransaction {s : State} {a : Addr} {v : Byte} {rest : List Event} (hcs : s.cs = .deasserted)
    (hplain : plainSlot (resolve a).slot = true)
    (hp : s.pending = .csAssert :: .spiByte 0x02 :: .spiByte (a.setWidth 8) :: .spiByte v :: .csDeassert :: rest)
    (k : Nat) : ∃ t : State, Host.Core.run Sys2Proof.core (k + 5) s = Host.Core.run Sys2Proof.core k t ∧
      t.cs = .deasserted ∧ t.pending = rest ∧ t.reg = (maskedStore a v s).reg ∧ t.irqPrev = s.irqPrev ∧ t.pin = s.pin := by
  have hdata := step_writingData (s := s.accessing true a (.spiByte v :: .csDeassert :: rest)) ⟨rfl, rfl, rfl⟩
  rw [State.accessing_address, update_plain hplain] at hdata
  exact ⟨_, (run_accessing (write := true) hcs hp _).trans <| (run_succ_of_step hdata _).trans <|
    run_succ_of_step (step_csDeassert rfl rfl rfl) _, rfl, rfl, rfl, rfl, rfl⟩

/-- A READ transaction up to its data byte answers the gated read and changes no register (R159). -/
theorem run_readTransaction {s : State} {a : Addr} {x : Byte} {rest : List Event} (hcs : s.cs = .deasserted)
    (hp : s.pending = .csAssert :: .spiByte 0x03 :: .spiByte (a.setWidth 8) :: .spiByte x :: rest) :
    ∃ t : State, Host.Core.run Sys2Proof.core 4 s = .next t ∧ t.pending = rest ∧ t.out.miso = some (memRead a s) ∧
      t.reg = s.reg ∧ t.irqPrev = s.irqPrev ∧ t.pin = s.pin :=
  ⟨_, (run_accessing (write := false) hcs hp 1).trans (run_succ_of_step (step_readingData ⟨rfl, rfl, rfl⟩) 0),
    rfl, rfl, rfl, rfl, rfl⟩

/-- Settles O60: the two transactions in turn; the gated read at `a` finds the masked store's byte. -/
theorem writeThenReadTransaction : Obligations.WriteThenReadTransaction := by
  intro s a v x hcs hplain hp
  obtain ⟨t, hrunWrite, htcs, htp, htreg, htirq, htpin⟩ := run_writeTransaction hcs hplain hp 4
  obtain ⟨u, hrunRead, hup, humiso, hureg, huirq, hupin⟩ := run_readTransaction htcs htp
  refine ⟨u, hrunWrite.trans hrunRead, hup, ?_, hureg.trans htreg, huirq.trans htirq, hupin.trans htpin⟩
  rw [humiso, memRead_congr htreg, memRead, maskedStore_mode, raw_maskedStore]
  rfl

end Sys2Proof.Machine
end

section
/-! SUPPORT. READ RX BUFFER and LOAD TX BUFFER (41_spi_buffer_shortcuts.md): the tables behind their command bytes, and
the release of the receive buffer at the end of a READ RX BUFFER transaction. -/

namespace Sys2Proof.Machine

open Sys2Proof

/-! ### READ RX BUFFER, command byte -/

/-- The command byte is one of the four of R180. -/
theorem encodeByte_rdrxb_mem : ∀ n m : BitVec 1, encodeByte (.rdrxb n m) ∈ [0x90#8, 0x92#8, 0x94#8, 0x96#8] := by
  decide

/-- The start address by the fields (R127) is the start address by the command byte (R180). -/
theorem rxStartAddress_eq_of_byte : ∀ n m : BitVec 1, rxStartAddress n m =
    if encodeByte (.rdrxb n m) = 0x90 then 0x61 else if encodeByte (.rdrxb n m) = 0x92 then 0x66
    else if encodeByte (.rdrxb n m) = 0x94 then 0x71 else 0x76 := by
  decide

/-- The field `n` is the remembered buffer `(b - 0x90) >> 2` (R180). -/
theorem rxMemoOf_eq_of_byte : ∀ n m : BitVec 1,
    rxMemoOf n = Fin.ofNat 2 ((encodeByte (.rdrxb n m) - 0x90) >>> 2).toNat := by
  decide

/-- Settles O18: the arm of `exec`, with its address and its memo read off the command byte. -/
theorem readRxBufferCommand : Obligations.ReadRxBufferCommand := by
  intro n m s
  refine ⟨_, rfl, decodeByte_encodeByte rfl, encodeByte_rdrxb_mem n m, ?_⟩
  rw [← rxStartAddress_eq_of_byte, ← rxMemoOf_eq_of_byte n m]
  rfl

/-! ### LOAD TX BUFFER, command byte -/

/-- The pointers 0 to 5 are the indices of the start-address table (R127). -/
theorem txStartTable_getElem? {p : Nat} (hp : p < 6) : txStartTable[p]? = some (txStartAddress p) := by
  have hlen : p < txStartTable.length := hp
  rw [txStartAddress, List.getD_eq_getElem _ _ hlen, List.getElem?_eq_getElem hlen]

/-- Both commands of LOAD TX BUFFER load from a pointer `p`, which their byte carries above 0x40 (R123, R185). -/
theorem exec_loadTxBuffer {i : Instr} (hi : (∃ bc, i = .ldtxbLow bc) ∨ ∃ c, i = .ldtxbHigh c) :
    ∃ p < 6, i.wellFormed = true ∧ (encodeByte i).toNat = 0x40 + p ∧
      ∀ s : State, exec i s = .next (loadTxBuffer p s) := by
  obtain ⟨bc, rfl⟩ | ⟨c, rfl⟩ := hi
  · exact ⟨bc.toNat, by omega, rfl, toNat_encodeByte_ldtxbLow bc, fun _ => rfl⟩
  · exact ⟨4 + c.toNat, by omega, rfl, by rw [toNat_encodeByte_ldtxbHigh]; omega, fun _ => rfl⟩

/-- Settles O19: the pointer of `exec_loadTxBuffer` indexes the table; 0x46 and 0x47 are no valid command bytes. -/
theorem loadTxBufferCommand : Obligations.LoadTxBufferCommand := by
  refine ⟨(decodeByte_eq_invalid_iff _ _).2 ⟨rfl, by decide⟩, (decodeByte_eq_invalid_iff _ _).2 ⟨rfl, by decide⟩, ?_⟩
  rintro i b s hi rfl
  obtain ⟨p, hp, hwf, hbyte, hexec⟩ := exec_loadTxBuffer hi
  refine ⟨decodeByte_encodeByte hwf, by omega, by omega, txStartAddress p, ?_, hexec s⟩
  rw [hbyte, Nat.add_sub_cancel_left]
  exact txStartTable_getElem? hp

/-! ### The end of a READ RX BUFFER transaction -/

/-- Raising flags reads and changes the registers, `irq_prev` and the pins, whatever the session, the chip-select, the
queue and the outputs are. -/
theorem raised_eq_of_chip_eq (fl : Byte) {s t : State} (hreg : t.reg = s.reg) (hprev : t.irqPrev = s.irqPrev)
    (hpin : t.pin = s.pin) :
    raised fl t =
      { t with reg := (raised fl s).reg, irqPrev := (raised fl s).irqPrev, pin := (raised fl s).pin } := by
  cases s
  cases t
  cases hreg
  cases hprev
  cases hpin
  unfold raised
  dsimp only
  split <;> rfl

theorem raised_reg_canintf (fl : Byte) (s : State) : (raised fl s).reg.canintf = s.reg.canintf ||| fl := by
  unfold raised
  dsimp only
  split <;> rfl

theorem raised_none_reg_canintf (s : State) : (raised 0x00 s).reg.canintf = s.reg.canintf :=
  (raised_reg_canintf _ s).trans BitVec.or_zero

/-- `clear_rx_flag` (R347) as one record, where a sleeping chip requests LISTEN and the request bits are consistent:
clearing a flag disturbs neither. -/
theorem clearRxFlag_eq_raised (i : Fin Config.nRx) {s : State} (hl : SleepRequestsListen s) (hq : RequestsConsistent s) :
    clearRxFlag i s = raised 0x00 (s.setCanintf (setBit s.reg.canintf (rxifBit i) false)) :=
  irqRaise_eq_raised _ _ hl hq

/-- After a READ RX BUFFER the rising edge clears the flag of the remembered buffer and forgets it (R183, R215). -/
theorem step_csDeassert_memo {s : State} {i : Fin Config.nRx} {rest : List Event} (hcs : s.cs = .asserted)
    (hmemo : s.spi.rxMemo = some i) (hp : s.pending = .csDeassert :: rest) :
    step s = .next ((clearRxFlag i ((s.beginEvent rest).setCs .deasserted)).setRxMemo none) := by
  simp [step_of_pending_cons hp, deliver, csDeassert, hcs, hmemo]

/-- Settles O40: the rising edge is `clear_rx_flag`, which is `raised`; the flags raised are none, so the cleared one
stays clear. -/
theorem endOfReadRxBufferFreesBuffer : Obligations.EndOfReadRxBufferFreesBuffer := by
  intro s i rest hp hcs hmemo hl hq
  refine ⟨raised 0x00 (s.setCanintf (setBit s.reg.canintf (rxifBit i) false)), rfl, ?_, ?_⟩
  · rw [RegFile.rxFull, raised_none_reg_canintf]
    exact bit_setBit_same _ _ _ (i.isLt.trans (by decide))
  · have hclear := (clearRxFlag_eq_raised i (s := (s.beginEvent rest).setCs .deasserted) hl hq).trans
      (raised_eq_of_chip_eq 0x00 (s := s.setCanintf (setBit s.reg.canintf (rxifBit i) false)) rfl rfl rfl)
    rw [step_csDeassert_memo hcs hmemo hp, hclear]
    rfl

end Sys2Proof.Machine
end

section
/-! SUPPORT. The control and status commands (42_spi_control_status.md): what RESET, READ STATUS, RX STATUS and an invalid
command do at their command byte, what the states behind them answer, and the bits of the two status bytes. -/

namespace Sys2Proof.Machine

open Sys2Proof

/-! ### The states that a byte does not leave -/

section
variable {s : State} {b : Byte} {rest : List Event}

/-- In `ReadingStatus` the byte answers the status byte of the registers (R207). -/
theorem step_readingStatus (h : ClocksByte s .readingStatus b rest) :
    step s = .next ((s.beginEvent rest).reply (statusByte s.reg)) := by
  obtain ⟨hcs, hst, hpending⟩ := h
  have hbyte : step s = .next (readingStatusByte (s.beginEvent rest)) := by
    simp [step_of_pending_cons hpending, deliver, spiByte, hcs, hst]
  exact hbyte.trans (congrArg _ (State.goto_self hst))

/-- In `ReadingRxStatus` the byte answers the RX status byte of the registers (R210). -/
theorem step_readingRxStatus (h : ClocksByte s .readingRxStatus b rest) :
    step s = .next ((s.beginEvent rest).reply (rxStatusByte s.reg)) := by
  obtain ⟨hcs, hst, hpending⟩ := h
  have hbyte : step s = .next (readingRxStatusByte (s.beginEvent rest)) := by
    simp [step_of_pending_cons hpending, deliver, spiByte, hcs, hst]
  exact hbyte.trans (congrArg _ (State.goto_self hst))

/-- In `Idle` the byte answers 0xFF (R212). -/
theorem step_idle (h : ClocksByte s .idle b rest) : step s = .next ((s.beginEvent rest).reply 0xFF) := by
  obtain ⟨hcs, hst, hpending⟩ := h
  have hbyte : step s = .next (idleByte (s.beginEvent rest)) := by
    simp [step_of_pending_cons hpending, deliver, spiByte, hcs, hst]
  exact hbyte.trans (congrArg _ (State.goto_self hst))

end

/-- Settles O14: the steps of the two status states. -/
theorem statusBytesAnswered : Obligations.StatusBytesAnswered :=
  fun _ _ _ => ⟨step_readingStatus, step_readingRxStatus⟩

/-! ### The command bytes -/

/-- Settles O17: the two command bytes and the arms of `exec` they reach. -/
theorem statusCommandBytes : Obligations.StatusCommandBytes :=
  ⟨decodeByte_encodeByte (i := .rdstat) rfl, decodeByte_encodeByte (i := .rxstat) rfl, fun _ => ⟨rfl, rfl⟩⟩

theorem exec_reset (s : State) : exec .reset s = .next (((fullReset s).goto .idle).reply 0xFF) := rfl

/-- Settles O20: RESET is `full_reset` but for the session, and `RegFile.get_reset` is what that leaves in each slot. -/
theorem resetCommand : Obligations.ResetCommand :=
  fun s => ⟨_, exec_reset s, rfl, RegFile.get_reset⟩

/-- An invalid command is logged and absorbed (R205, R331). -/
theorem exec_invalid (b : Byte) (s : State) :
    exec (.invalid b) s = .next (((s.logLine .invalidCommand).goto .idle).reply 0xFF) := rfl

/-- Settles O21: the bytes outside the 24 are the invalid commands, and `exec_invalid` ends in `Idle`, where the next
byte is `step_idle`. -/
theorem invalidCommand : Obligations.InvalidCommand := by
  refine ⟨fun b s hb => ⟨(decodeByte_eq_invalid_iff b b).2 ⟨rfl, hb⟩, exec_invalid b s⟩, by decide, ?_⟩
  intro s t b c rest _ hexec hcs hpending
  rw [exec_invalid] at hexec
  obtain rfl := Host.Outcome.next.inj hexec
  exact step_idle ⟨hcs, rfl, hpending⟩

/-! ### The bits of the status bytes -/

theorem bit_or (v w : Byte) (i : Nat) : bit (v ||| w) i = (bit v i || bit w i) := BitVec.getLsbD_or

theorem bit_and (v w : Byte) (i : Nat) : bit (v &&& w) i = (bit v i && bit w i) := BitVec.getLsbD_and

theorem bit_oneBit {i : Nat} (hi : i < 8) (b : Bool) (j : Nat) : bit (oneBit i b) j = (decide (j = i) && b) := by
  cases b with
  | false => simp [bit, oneBit]
  | true =>
    have h : oneBit i true = setBit 0x00 i true := by simp [oneBit, setBit]
    rw [h, bit_setBit _ _ _ _ hi]
    simp [bit]

/-- A field of three bits fills bits 2:0 of a byte. -/
theorem bit_setWidth_of_le (v : BitVec 3) {i : Nat} (hi : 3 ≤ i) : bit (v.setWidth 8) i = false := by
  simp [bit, BitVec.getLsbD_of_ge v i hi]

/-- R208: which bit of the READ STATUS byte each flag and each request is. -/
theorem bit_statusByte (r : RegFile) (i : Nat) :
    bit (statusByte r) i =
      (decide (i = 0) && r.rxFull 0 || decide (i = 1) && r.rxFull 1 ||
        decide (i = 2) && bit r.tx[0].ctrl txreqBit || decide (i = 3) && bit r.canintf (txifBit 0) ||
        decide (i = 4) && bit r.tx[1].ctrl txreqBit || decide (i = 5) && bit r.canintf (txifBit 1) ||
        decide (i = 6) && bit r.tx[2].ctrl txreqBit || decide (i = 7) && bit r.canintf (txifBit 2)) := by
  simp only [statusByte, bit_or, bit_oneBit, Nat.reduceLT]

/-- What bits 4:0 of the RX STATUS byte say of the buffer they report, if there is one (R211). -/
def rxStatusDetail (r : RegFile) : Option (Fin Config.nRx) → Byte
  | none => 0x00
  | some n =>
    oneBit 4 (bit r.rx[n].id.sidl exideBit) ||| oneBit 3 (bit r.rx[n].ctrl rxrtrBit) ||| (rxStatusFilter r n).setWidth 8

theorem rxStatusByte_eq (r : RegFile) :
    rxStatusByte r = oneBit 6 (r.rxFull 0) ||| oneBit 7 (r.rxFull 1) ||| rxStatusDetail r (rxStatusBuffer r) := by
  unfold rxStatusByte rxStatusDetail
  cases rxStatusBuffer r with
  | none => exact BitVec.or_zero.symm
  | some n => simp only [BitVec.or_assoc]

/-- R211: bits 7:5 are the two RX-full flags and 0, bits 4:0 the detail. -/
theorem bit_rxStatusByte (r : RegFile) (i : Nat) :
    bit (rxStatusByte r) i =
      (decide (i = 6) && r.rxFull 0 || decide (i = 7) && r.rxFull 1 || bit (rxStatusDetail r (rxStatusBuffer r)) i) := by
  rw [rxStatusByte_eq, bit_or, bit_or, bit_oneBit (by decide), bit_oneBit (by decide)]

/-- Above the filter index the detail is EXIDE and RXRTR of the reported buffer. -/
theorem bit_rxStatusDetail (r : RegFile) (n : Fin Config.nRx) {i : Nat} (hi : 3 ≤ i) :
    bit (rxStatusDetail r (some n)) i =
      (decide (i = 4) && bit r.rx[n].id.sidl exideBit || decide (i = 3) && bit r.rx[n].ctrl rxrtrBit) := by
  simp only [rxStatusDetail, bit_or, bit_oneBit, Nat.reduceLT, bit_setWidth_of_le _ hi, Bool.or_false]

theorem bit_rxStatusDetail_of_le (r : RegFile) (buf : Option (Fin Config.nRx)) {i : Nat} (hi : 5 ≤ i) :
    bit (rxStatusDetail r buf) i = false := by
  cases buf with
  | none => simp [rxStatusDetail, bit]
  | some n => simp [bit_rxStatusDetail r n (show 3 ≤ i by omega), show i ≠ 4 by omega, show i ≠ 3 by omega]

/-- Bits 2:0 of a byte are the field put there, when nothing else in the byte reaches below bit 3. -/
theorem or_setWidth_and_seven (v : Byte) (f : BitVec 3) (h : ∀ i, i < 3 → bit v i = false) :
    (v ||| f.setWidth 8) &&& 0x07 = f.setWidth 8 := by
  have hseven : ∀ i, i < 8 → bit 0x07 i = decide (i < 3) := by decide
  apply byte_ext
  intro i hi
  rw [bit_and, bit_or, hseven i hi]
  by_cases hlow : i < 3
  · simp [h i hlow, hlow]
  · simp [hlow, bit_setWidth_of_le f (Nat.le_of_not_lt hlow)]

/-- The RX STATUS byte of a chip with a full buffer: EXIDE and RXRTR of the reported buffer, and its filter index. -/
theorem rxStatusByte_of_buffer {r : RegFile} {n : Fin Config.nRx} (hbuf : rxStatusBuffer r = some n) :
    bit (rxStatusByte r) 4 = bit r.rx[n].id.sidl exideBit ∧ bit (rxStatusByte r) 3 = bit r.rx[n].ctrl rxrtrBit ∧
      (rxStatusByte r &&& 0x07).toNat = (rxStatusFilter r n).toNat := by
  refine ⟨?_, ?_, ?_⟩
  · simp [bit_rxStatusByte, hbuf, bit_rxStatusDetail]
  · simp [bit_rxStatusByte, hbuf, bit_rxStatusDetail]
  · rw [rxStatusByte_eq, hbuf, rxStatusDetail, ← BitVec.or_assoc, or_setWidth_and_seven]
    · exact BitVec.toNat_setWidth_of_le (by decide)
    · intro i hi
      simp only [bit_or, bit_oneBit, Nat.reduceLT]
      simp [show i ≠ 6 by omega, show i ≠ 7 by omega, show i ≠ 4 by omega, show i ≠ 3 by omega]

theorem toNat_rxStatusFilter_zero (r : RegFile) :
    (rxStatusFilter r 0).toNat = if bit r.rx[0].ctrl 0 then 1 else 0 := by
  rw [rxStatusFilter, if_pos rfl]
  cases h : bit r.rx[0].ctrl 0 <;> simp [filhit0Bit, h]

theorem toNat_filhitField (ctrl : Byte) : (filhitField ctrl).toNat = (ctrl &&& 0x07).toNat := by
  simp [filhitField, BitVec.extractLsb'_toNat, Nat.and_two_pow_sub_one_eq_mod _ 3]

/-- Filter indices 0 and 1 in buffer 1 come from a rollover and are reported as 6 and 7 (R211). -/
theorem toNat_rxStatusFilter_one (r : RegFile) :
    (rxStatusFilter r 1).toNat =
      if 2 ≤ (r.rx[1].ctrl &&& 0x07).toNat then (r.rx[1].ctrl &&& 0x07).toNat
      else 6 + (r.rx[1].ctrl &&& 0x07).toNat := by
  rw [rxStatusFilter, if_neg (by decide), ← toNat_filhitField]
  dsimp only
  split
  · rfl
  · rw [BitVec.toNat_add_of_lt]
    · rfl
    · simp
      omega

/-- Settles O15: the two bytes bit by bit, and for the RX STATUS byte the buffer that is reported. -/
theorem statusByteLayouts : Obligations.StatusByteLayouts := by
  refine ⟨fun r => ?_, fun r => ?_⟩
  · simp [bit_statusByte, RegFile.rxFull, txreqBit]
  · have hhigh : ∀ i, 5 ≤ i → bit (rxStatusDetail r (rxStatusBuffer r)) i = false := fun i =>
      bit_rxStatusDetail_of_le r _
    refine ⟨?_, ?_, ?_, fun h0 => ?_, fun h0 h1 => ?_, fun h0 h1 => ?_⟩
    · simp [bit_rxStatusByte, hhigh, RegFile.rxFull]
    · simp [bit_rxStatusByte, hhigh, RegFile.rxFull]
    · simp [bit_rxStatusByte, hhigh]
    · have hbuf : rxStatusBuffer r = some 0 := if_pos h0
      obtain ⟨hext, hrtr, hfilter⟩ := rxStatusByte_of_buffer hbuf
      exact ⟨hext, hrtr, hfilter.trans (toNat_rxStatusFilter_zero r)⟩
    · have hbuf : rxStatusBuffer r = some 1 := by simp [rxStatusBuffer, RegFile.rxFull, h0, h1]
      obtain ⟨hext, hrtr, hfilter⟩ := rxStatusByte_of_buffer hbuf
      exact ⟨hext, hrtr, hfilter.trans (toNat_rxStatusFilter_one r)⟩
    · have hbuf : rxStatusBuffer r = none := by simp [rxStatusBuffer, RegFile.rxFull, h0, h1]
      rw [rxStatusByte_eq, hbuf]
      simp [RegFile.rxFull, h0, h1, oneBit, rxStatusDetail]

end Sys2Proof.Machine
end

section
/-! SUPPORT. The events at the SPI interface (R8, R214 to R217): what an event does to the queue, to chip-select and to the
protocol state, hence which events are refused, over one step and over runs of any length, and how `Idle` is entered and
left. -/

namespace Sys2Proof.Machine

open Sys2Proof

/-! ### The command byte -/

/-- The protocol state that each command byte ends in (R124). -/
def Instr.stateAfter : Instr → SpiState
  | .reset | .rts _ | .invalid _ => .idle
  | .read | .write => .awaitingAddress
  | .bitmod => .awaitingModifyAddress
  | .rdrxb _ _ => .readingData
  | .ldtxbLow _ | .ldtxbHigh _ => .writingData
  | .rdstat => .readingStatus
  | .rxstat => .readingRxStatus

/-- A command sets the protocol state and leaves the queue and chip-select as they are. -/
theorem exec_interface {i : Instr} {s t : State} (h : exec i s = .next t) :
    t.spi.state = Instr.stateAfter i ∧ t.cs = s.cs ∧ t.pending = s.pending := by
  cases i with
  | rts nnn =>
    obtain rfl := Host.Outcome.next.inj h
    exact ⟨rfl, requestToSend_cs nnn s, requestToSend_pending nnn s⟩
  | _ =>
    obtain rfl := Host.Outcome.next.inj h
    exact ⟨rfl, rfl, rfl⟩

theorem Instr.stateAfter_eq_idle_iff (i : Instr) :
    Instr.stateAfter i = .idle ↔ i = .reset ∨ (∃ nnn, i = .rts nnn) ∨ ∃ b, i = .invalid b := by
  cases i <;> simp [Instr.stateAfter]

/-! ### Operand and data bytes -/

/-- The protocol state after an operand or data byte (R217): only the address and mask bytes move on. -/
def Session.stateAfterByte (spi : Session) : SpiState :=
  match spi.state with
  | .awaitingAddress => if spi.addrThenWrite then .writingData else .readingData
  | .awaitingModifyAddress => .awaitingModifyMask
  | .awaitingModifyMask => .modifyingData
  | st => st

/-- No operand or data byte enters or leaves `Idle`. -/
theorem Session.stateAfterByte_eq_idle_iff (spi : Session) : spi.stateAfterByte = .idle ↔ spi.state = .idle := by
  unfold Session.stateAfterByte
  cases h : spi.state with
  | awaitingAddress => cases spi.addrThenWrite <;> simp
  | _ => simp

theorem spiByte_operand {s t : State} {b : Byte} (h : spiByte b s = .next t)
    (hst : s.spi.state ≠ .awaitingInstruction) :
    t.spi.state = s.spi.stateAfterByte ∧ t.cs = s.cs ∧ t.pending = s.pending := by
  unfold spiByte at h
  split at h
  · cases h
  · unfold Session.stateAfterByte
    cases hs : s.spi.state with
    | awaitingInstruction => exact absurd hs hst
    | writingData =>
      rw [hs] at h
      obtain rfl := Host.Outcome.next.inj h
      exact ⟨rfl, update_cs s.spi.address b s, update_pending s.spi.address b s⟩
    | modifyingData =>
      rw [hs] at h
      obtain rfl := Host.Outcome.next.inj h
      exact ⟨rfl, update_cs s.spi.address _ s, update_pending s.spi.address _ s⟩
    | _ =>
      rw [hs] at h
      obtain rfl := Host.Outcome.next.inj h
      exact ⟨rfl, rfl, rfl⟩

/-- A byte leaves the queue and chip-select as they are. -/
theorem spiByte_cs_pending {s t : State} {b : Byte} (h : spiByte b s = .next t) :
    t.cs = s.cs ∧ t.pending = s.pending := by
  by_cases hst : s.spi.state = .awaitingInstruction
  · cases hcs : s.cs with
    | deasserted => simp [spiByte, hcs] at h
    | asserted =>
      rw [spiByte_awaitingInstruction hcs hst] at h
      rw [← hcs]
      exact (exec_interface h).2
  · exact (spiByte_operand h hst).2

/-- A selected chip takes every byte. -/
theorem spiByte_of_asserted {s : State} (hcs : s.cs = .asserted) (b : Byte) : ∃ t, spiByte b s = .next t := by
  cases hst : s.spi.state with
  | awaitingInstruction =>
    obtain ⟨t, ht⟩ := exec_eq_next_reply (decodeByte b) s
    exact ⟨_, (spiByte_awaitingInstruction hcs hst b).trans ht⟩
  | _ => simp [spiByte, hcs, hst]

/-- A de-selected chip refuses every byte (R216, D29). -/
theorem spiByte_of_deasserted {s : State} (hcs : s.cs = .deasserted) (b : Byte) :
    spiByte b s = .refused .spiByteWhileDeselected := if_pos hcs

/-! ### The chip-select edges -/

theorem csAssert_of_asserted {s : State} (hcs : s.cs = .asserted) : csAssert s = s := if_pos hcs

theorem csDeassert_of_deasserted {s : State} (hcs : s.cs = .deasserted) : csDeassert s = s := if_pos hcs

/-- Settles O39: the two edges by `step_csAssert` and `step_csDeassert`; an event that is no edge is ignored. -/
theorem chipSelectEdges : Obligations.ChipSelectEdges := by
  refine fun s rest => ⟨fun hp hcs => step_csAssert hcs hp, fun hp hcs => ?_, fun hp hcs hmemo => ?_, fun hp hcs => ?_⟩
  · rw [step_of_pending_cons hp, deliver, csAssert_of_asserted (s := s.beginEvent rest) hcs]
    rfl
  · rw [step_csDeassert hcs hmemo hp, ← hmemo]
    rfl
  · rw [step_of_pending_cons hp, deliver, csDeassert_of_deasserted (s := s.beginEvent rest) hcs]
    rfl

theorem csAssert_interface (s : State) : (csAssert s).cs = .asserted ∧ (csAssert s).pending = s.pending := by
  unfold csAssert
  split
  · next hcs => exact ⟨hcs, rfl⟩
  · exact ⟨rfl, rfl⟩

theorem csDeassert_interface (s : State) :
    (csDeassert s).spi.state = s.spi.state ∧ (csDeassert s).cs = .deasserted ∧ (csDeassert s).pending = s.pending := by
  unfold csDeassert
  split
  · next hcs => exact ⟨rfl, hcs, rfl⟩
  · cases hmemo : s.spi.rxMemo <;> simp [hmemo]

/-! ### One event -/

/-- The chip-select level after an event (R214, R215, R371). -/
def Event.csAfter : Event → ChipSelect → ChipSelect
  | .csAssert, _ => .asserted
  | .csDeassert, _ => .deasserted
  | .deviceReset, _ => .deasserted
  | .spiByte _, c => c
  | .busRx _, c => c

/-- No event adds to or takes from the events that wait, and chip-select follows the event. -/
theorem deliver_cs_pending {e : Event} {s t : State} (h : deliver e s = .next t) :
    t.cs = Event.csAfter e s.cs ∧ t.pending = s.pending := by
  cases e with
  | spiByte b => exact spiByte_cs_pending h
  | csAssert =>
    obtain rfl := Host.Outcome.next.inj h
    exact csAssert_interface s
  | csDeassert =>
    obtain rfl := Host.Outcome.next.inj h
    exact (csDeassert_interface s).2
  | busRx f =>
    obtain rfl := Host.Outcome.next.inj h
    exact ⟨busRx_cs f s, busRx_pending f s⟩
  | deviceReset =>
    obtain rfl := Host.Outcome.next.inj h
    exact ⟨rfl, rfl⟩

/-- What an event can do to the protocol state: nothing, begin a new session, or what a byte does. -/
theorem deliver_state_cases {e : Event} {s t : State} (h : deliver e s = .next t) :
    t.spi.state = s.spi.state ∨ (e = .csAssert ∨ e = .deviceReset) ∧ t.spi.state = .awaitingInstruction ∨
      ∃ b, e = .spiByte b ∧ (s.spi.state = .awaitingInstruction ∨ t.spi.state = s.spi.stateAfterByte) := by
  cases e with
  | spiByte b =>
    by_cases hst : s.spi.state = .awaitingInstruction
    · exact .inr (.inr ⟨b, rfl, .inl hst⟩)
    · exact .inr (.inr ⟨b, rfl, .inr (spiByte_operand h hst).1⟩)
  | csAssert =>
    obtain rfl := Host.Outcome.next.inj h
    unfold csAssert
    split
    · exact .inl rfl
    · exact .inr (.inl ⟨.inl rfl, rfl⟩)
  | csDeassert =>
    obtain rfl := Host.Outcome.next.inj h
    exact .inl (csDeassert_interface s).1
  | busRx f =>
    obtain rfl := Host.Outcome.next.inj h
    exact .inl (congrArg Session.state (busRx_spi f s))
  | deviceReset =>
    obtain rfl := Host.Outcome.next.inj h
    exact .inr (.inl ⟨.inr rfl, rfl⟩)

/-- Settles O13: `step_idle`, the state each command ends in, and the states before and after an event. -/
theorem idleIsTerminal : Obligations.IdleIsTerminal := by
  refine ⟨fun s b rest => step_idle, fun i s t h => ?_, fun s t e rest hp h => ?_⟩
  · rw [(exec_interface h).1]
    exact Instr.stateAfter_eq_idle_iff i
  · rw [step_of_pending_cons hp] at h
    rcases deliver_state_cases h with hkeep | ⟨he, hnew⟩ | ⟨b, rfl, hcmd | hbyte⟩
    · exact ⟨fun hs ht => absurd (hkeep ▸ ht) hs, fun hs ht => absurd (hkeep.trans hs) ht⟩
    · refine ⟨fun _ ht => ?_, fun _ _ => he⟩
      rw [hnew] at ht
      cases ht
    · refine ⟨fun _ _ => ⟨hcmd, b, rfl⟩, fun hs _ => ?_⟩
      cases hcmd.symm.trans hs
    · have hiff : t.spi.state = .idle ↔ s.spi.state = .idle := hbyte ▸ s.spi.stateAfterByte_eq_idle_iff
      exact ⟨fun hs ht => absurd (hiff.1 ht) hs, fun hs ht => absurd (hiff.2 hs) ht⟩

/-! ### Refusal -/

/-- The next event is a byte outside a chip-select assertion (R216). -/
def State.clocksDeselected (s : State) : Prop := s.cs = .deasserted ∧ ∃ b rest, s.pending = .spiByte b :: rest

/-- A step is refused for a byte outside a chip-select assertion, and answers a next state otherwise. -/
theorem step_cases (s : State) :
    s.clocksDeselected ∧ step s = .refused .spiByteWhileDeselected ∨ ¬s.clocksDeselected ∧ ∃ t, step s = .next t := by
  cases hp : s.pending with
  | nil =>
    refine .inr ⟨?_, s, by rw [step, hp]⟩
    rintro ⟨-, b, rest, h⟩
    cases hp.symm.trans h
  | cons e rest =>
    rw [step_of_pending_cons hp]
    cases e with
    | spiByte b =>
      cases hcs : s.cs with
      | deasserted => exact .inl ⟨⟨hcs, b, rest, hp⟩, spiByte_of_deasserted (s := s.beginEvent rest) hcs b⟩
      | asserted =>
        refine .inr ⟨fun h => ?_, spiByte_of_asserted (s := s.beginEvent rest) hcs b⟩
        cases hcs.symm.trans h.1
    | _ =>
      refine .inr ⟨?_, _, rfl⟩
      rintro ⟨-, b, rest', h⟩
      cases hp.symm.trans h

/-- Settles O7: `step_cases`. -/
theorem stepRefusesExactlyUnselectedBytes : Obligations.StepRefusesExactlyUnselectedBytes := by
  intro s
  refine ⟨fun r => ?_, ?_, fun hp => by rw [step, hp]⟩
  · rcases step_cases s with ⟨hbyte, hstep⟩ | ⟨hbyte, t, hstep⟩ <;> rw [hstep]
    · exact ⟨fun h => ⟨(Host.Outcome.refused.inj h).symm, hbyte⟩, fun h => congrArg _ h.1.symm⟩
    · exact ⟨fun h => (by cases h), fun h => absurd h.2 hbyte⟩
  · rcases step_cases s with ⟨hbyte, hstep⟩ | ⟨hbyte, t, hstep⟩ <;> rw [hstep]
    · exact ⟨fun ⟨_, h⟩ => (by cases h), fun h => absurd hbyte h⟩
    · exact ⟨fun _ => hbyte, fun _ => ⟨t, rfl⟩⟩

/-- What is left of the events of a master that selects before it clocks is again such a master's. -/
theorem selectsBeforeClocking_cons {c : ChipSelect} {e : Event} {rest : List Event}
    (h : selectsBeforeClocking c (e :: rest) = true) : selectsBeforeClocking (Event.csAfter e c) rest = true := by
  cases e with
  | spiByte b =>
    rw [selectsBeforeClocking, Bool.and_eq_true] at h
    exact h.2
  | _ => exact h

theorem not_clocksDeselected {s : State} (h : selectsBeforeClocking s.cs s.pending = true) : ¬s.clocksDeselected := by
  rintro ⟨hcs, b, rest, hp⟩
  rw [hcs, hp] at h
  cases h

/-- A master that selects before it clocks is not refused, and still is such a master after the step. -/
theorem step_selectsBeforeClocking {s : State} (h : selectsBeforeClocking s.cs s.pending = true) :
    ∃ t, step s = .next t ∧ selectsBeforeClocking t.cs t.pending = true := by
  obtain ⟨hbyte, -⟩ | ⟨-, t, hstep⟩ := step_cases s
  · exact absurd hbyte (not_clocksDeselected h)
  · refine ⟨t, hstep, ?_⟩
    cases hp : s.pending with
    | nil =>
      rw [step, hp] at hstep
      obtain rfl := Host.Outcome.next.inj hstep
      exact h
    | cons e rest =>
      rw [step_of_pending_cons hp] at hstep
      obtain ⟨hcs, hpending⟩ := deliver_cs_pending hstep
      rw [hcs, hpending]
      exact selectsBeforeClocking_cons (hp ▸ h)

/-- Settles O8: `step_selectsBeforeClocking`, by induction on the number of steps. -/
theorem selectedMasterIsNeverRefused : Obligations.SelectedMasterIsNeverRefused := by
  intro s h k
  induction k generalizing s with
  | zero => exact ⟨s, rfl⟩
  | succ k ih =>
    obtain ⟨t, hstep, ht⟩ := step_selectsBeforeClocking h
    rw [run_succ_of_step hstep]
    exact ih t ht

end Sys2Proof.Machine
end

section
/-! SUPPORT. RTS (42_spi_control_status.md R203): one request served by the arbiter, in a mode that queues and in NORMAL
mode, and then all requests of a bitmap together. -/

namespace Sys2Proof.Machine

open Sys2Proof

/-! ### The request bits of one buffer -/

/-- A TX buffer with ABTF cleared and TXREQ made `b`: requested, or with `b` false served. -/
def Buffer.withRequest (b : Bool) (t : Buffer) : Buffer :=
  { t with ctrl := setBit (setBit t.ctrl abtfBit false) txreqBit b }

theorem Buffer.withRequest_withRequest (a b : Bool) (t : Buffer) :
    (t.withRequest a).withRequest b = t.withRequest b := by
  have hctrl : ((t.withRequest a).withRequest b).ctrl = (t.withRequest b).ctrl := by
    simp only [Buffer.withRequest]
    rw [setBit_comm _ a false (by decide) (by decide) (by decide), setBit_setBit _ _ _ _ (by decide),
      setBit_setBit _ _ _ _ (by decide)]
  exact congrArg (fun c => { t with ctrl := c }) hctrl

/-- A frame is built from the other bytes of the buffer (R296). -/
theorem frameOf_withRequest (b : Bool) (t : Buffer) : frameOf (t.withRequest b) = frameOf t := rfl

/-- Buffer `n` of the chip is requested, or with `b` false served. -/
def State.setRequest (b : Bool) (s : State) (n : Fin Config.nTx) : State := s.setTx n (s.reg.tx[n].withRequest b)

theorem setRequest_tx (b : Bool) (s : State) (n m : Fin Config.nTx) :
    (s.setRequest b n).reg.tx[m] = if m = n then s.reg.tx[n].withRequest b else s.reg.tx[m] :=
  tx_getElem_set _ _ _ _

theorem setTx_setTx (s : State) (n : Fin Config.nTx) (t u : Buffer) : (s.setTx n t).setTx n u = s.setTx n u := by
  simp [State.setTx]

/-- Clearing ABTF and then writing TXREQ is one update of the buffer. -/
theorem setTxCtrlBit_setTxCtrlBit (b : Bool) (s : State) (n : Fin Config.nTx) :
    (s.setTxCtrlBit n abtfBit false).setTxCtrlBit n txreqBit b = s.setRequest b n := by
  simp [State.setTxCtrlBit, setTx_setTx, State.setRequest, Buffer.withRequest]

/-- A request whose TXREQ is written again. -/
theorem setRequest_setTxCtrlBit (a b : Bool) (s : State) (n : Fin Config.nTx) :
    (s.setRequest a n).setTxCtrlBit n txreqBit b = s.setRequest b n := by
  simp [State.setTxCtrlBit, setTx_setTx, State.setRequest, Buffer.withRequest, setBit_setBit, txreqBit]

theorem txreq_setRequest (s : State) (n : Fin Config.nTx) : (s.setRequest true n).txreq n = true := by
  rw [← setTxCtrlBit_setTxCtrlBit, txreq_setTxCtrlBit_txreq, if_pos rfl]

/-! ### The request bits of several buffers -/

/-- Each buffer of a list ends up requested (or served), whatever its place in the list; the others are as they were. -/
theorem foldl_setRequest_tx (b : Bool) (l : List (Fin Config.nTx)) (s : State) (m : Fin Config.nTx) :
    (l.foldl (State.setRequest b) s).reg.tx[m] = if m ∈ l then s.reg.tx[m].withRequest b else s.reg.tx[m] := by
  induction l generalizing s with
  | nil => rfl
  | cons n l ih =>
    rw [List.foldl_cons, ih, setRequest_tx]
    by_cases hn : m = n
    · subst hn
      simp [Buffer.withRequest_withRequest]
    · simp [hn]

/-- Requests touch nothing but the TX buffers. -/
theorem foldl_setRequest_eq (b : Bool) (l : List (Fin Config.nTx)) (s : State) :
    l.foldl (State.setRequest b) s =
      { s with reg := { s.reg with tx := (l.foldl (State.setRequest b) s).reg.tx } } := by
  induction l generalizing s with
  | nil => rfl
  | cons n l ih => exact ih (s.setRequest b n)

/-! ### Requests that are queued -/

/-- One request outside the sending modes is queued (R300). -/
theorem requestOne_of_not_sends (s : State) (n : Fin Config.nTx) (h : s.sends = false) :
    requestOne s n = s.setRequest true n := by
  rw [requestOne, setTxCtrlBit_setTxCtrlBit, trySend, if_pos (txreq_setRequest s n)]
  exact doSend_of_not_sends n _ h

/-- Outside the sending modes the arbiter only sets request bits. -/
theorem requestToSend_of_not_sends (bitmap : BitVec 3) (s : State) (habat : s.abat = false) (h : s.sends = false) :
    requestToSend bitmap s =
      (sendOrder (fun n => txpField s.reg.tx[n].ctrl) bitmap).foldl (State.setRequest true) s := by
  rw [requestToSend, habat, if_neg (by decide)]
  generalize sendOrder _ bitmap = l
  induction l generalizing s with
  | nil => rfl
  | cons n l ih =>
    rw [List.foldl_cons, List.foldl_cons, requestOne_of_not_sends s n h]
    exact ih (s.setRequest true n) habat h

theorem exec_rts (nnn : BitVec 3) (s : State) :
    exec (.rts nnn) s = .next (((requestToSend nnn s).goto .idle).reply 0xFF) := rfl

/-- Settles O23: outside the sending modes every named buffer is requested, and nothing else changes. -/
theorem rtsQueuesOutsideSendingModes : Obligations.RtsQueuesOutsideSendingModes := by
  intro nnn s habat hnormal hloopback
  have hsends : s.sends = false := decide_eq_false (not_or.2 ⟨hnormal, hloopback⟩)
  refine ⟨_, exec_rts nnn s, fun n => ?_, ?_⟩ <;> rw [requestToSend_of_not_sends nnn s habat hsends]
  · simp only [State.reply_reg, State.goto_reg, foldl_setRequest_tx, mem_sendOrder]
    rfl
  · rw [foldl_setRequest_eq]
    rfl

/-! ### Raising flags one after another -/

theorem setIcodField_setIcodField (v : Byte) (c d : BitVec 3) : setIcodField (setIcodField v c) d = setIcodField v d :=
  canstat_ext (by simp) (by simp)
    (by rw [bit_setIcodField _ _ _ (.inl rfl), bit_setIcodField _ _ _ (.inl rfl), bit_setIcodField _ _ _ (.inl rfl)])
    (by rw [bit_setIcodField _ _ _ (.inr le_rfl), bit_setIcodField _ _ _ (.inr le_rfl),
      bit_setIcodField _ _ _ (.inr le_rfl)])

/-- Flags that leave the effective set as it was are only set (D23). -/
theorem raised_of_eq {fl : Byte} {s : State} (h : (s.reg.canintf ||| fl) &&& s.reg.caninte = s.irqPrev) :
    raised fl s = s.setCanintf (s.reg.canintf ||| fl) := if_pos h

/-- The chip with the interrupt state of canintf `v` (R341 to R345): code, `irq_prev` and pins follow. -/
def State.withInterrupts (s : State) (v : Byte) : State :=
  { s with
    reg := { s.reg with canintf := v, canstat := setIcodField s.reg.canstat (icod (v &&& s.reg.caninte)) }
    irqPrev := v &&& s.reg.caninte
    pin := {
      irq := decide (v &&& s.reg.caninte ≠ 0x00)
      rx0bf := rxnbfLevel { s.reg with canintf := v } 0
      rx1bf := rxnbfLevel { s.reg with canintf := v } 1 } }

/-- Awake, flags that change the effective set bring the interrupt state up to date and do nothing else. -/
theorem raised_of_ne {fl : Byte} {s : State} (hm : s.mode ≠ modeSleep)
    (h : (s.reg.canintf ||| fl) &&& s.reg.caninte ≠ s.irqPrev) :
    raised fl s = s.withInterrupts (s.reg.canintf ||| fl) := by
  have hwake : wakes ((s.reg.canintf ||| fl) &&& s.reg.caninte) s = false := by simp [wakes, hm]
  unfold raised
  dsimp only
  rw [if_neg h, hwake]
  rfl

theorem raised_mode_of_not_sleep (fl : Byte) {s : State} (hm : s.mode ≠ modeSleep) : (raised fl s).mode = s.mode :=
  (raised_mode_cases fl s).resolve_right fun h => hm h.1

/-- With the interrupt state current there is nothing to bring up to date (R342). -/
theorem raised_none_of_interruptsCurrent {s : State} (h : InterruptsCurrent s) : raised 0x00 s = s := by
  have hintf : s.reg.canintf ||| 0x00 = s.reg.canintf := BitVec.or_zero
  rw [raised_of_eq (by rw [hintf]; exact h.1.symm), hintf]
  rfl

/-- The pins of the RX buffers follow the RX-full flags only. -/
theorem rxnbfLevel_setCanintf {r : RegFile} {v w : Byte} (i : Fin Config.nRx) (h : bit v (rxifBit i) = bit w (rxifBit i)) :
    rxnbfLevel { r with canintf := v } i = rxnbfLevel { r with canintf := w } i := by
  simp only [rxnbfLevel, RegFile.rxFull, h]

/-- Raising more flags never takes the effective set back. -/
theorem effective_eq_of_or_eq {a f g e : Byte} (h : (a ||| f ||| g) &&& e = a &&& e) : (a ||| f) &&& e = a &&& e := by
  have hbit : ∀ a f g e : Bool, ((a || f || g) && e) = (a && e) → ((a || f) && e) = (a && e) := by decide
  apply byte_ext
  intro i _
  have hi := congrArg (bit · i) h
  simp only [bit_and, bit_or] at hi ⊢
  exact hbit _ _ _ _ hi

/-- Awake, and with the interrupt state current at the start, raising `f` and then TX flags `g` is raising both at once. -/
theorem raised_raised {f g : Byte} {s : State} (hm : s.mode ≠ modeSleep) (hi : InterruptsCurrent s)
    (hg : ∀ i : Fin Config.nRx, bit g (rxifBit i) = false) : raised g (raised f s) = raised (f ||| g) s := by
  by_cases hf : (s.reg.canintf ||| f) &&& s.reg.caninte = s.irqPrev
  · rw [raised_of_eq hf]
    unfold raised
    simp only [State.setCanintf_reg_canintf, State.setCanintf_reg_caninte, State.setCanintf_irqPrev, BitVec.or_assoc]
    rfl
  · have hfg : (s.reg.canintf ||| (f ||| g)) &&& s.reg.caninte ≠ s.irqPrev := fun e => by
      rw [hi.1, ← BitVec.or_assoc] at e
      exact hf ((effective_eq_of_or_eq e).trans hi.1.symm)
    have hrx : ∀ i : Fin Config.nRx, rxnbfLevel { s.reg with canintf := s.reg.canintf ||| f } i =
        rxnbfLevel { s.reg with canintf := s.reg.canintf ||| f ||| g } i := fun i =>
      rxnbfLevel_setCanintf i (by rw [bit_or _ g, hg i, Bool.or_false])
    rw [raised_of_ne hm hf, raised_of_ne hm hfg, ← BitVec.or_assoc]
    by_cases hsame : (s.reg.canintf ||| f ||| g) &&& s.reg.caninte = (s.reg.canintf ||| f) &&& s.reg.caninte
    · rw [raised_of_eq hsame]
      unfold State.withInterrupts
      rw [hrx 0, hrx 1, hsame]
      rfl
    · have hmode : (s.withInterrupts (s.reg.canintf ||| f)).mode ≠ modeSleep := by
        rwa [← raised_of_ne hm hf, raised_mode_of_not_sleep f hm]
      rw [raised_of_ne hmode hsame]
      unfold State.withInterrupts
      dsimp only
      rw [setIcodField_setIcodField]
      rfl

/-! ### Requests that are served at once -/

/-- The state with what a transmission to the bus changes besides the flags taken from `v`: TX buffers and outputs. -/
def State.withTransmitState (s v : State) : State := { s with reg := { s.reg with tx := v.reg.tx }, out := v.out }

/-- Raising flags neither reads nor changes TX buffers and outputs. -/
theorem raised_withTransmitState (fl : Byte) (s v : State) :
    raised fl (s.withTransmitState v) = (raised fl s).withTransmitState v := by
  unfold raised State.withTransmitState
  dsimp only
  split <;> rfl

/-- Buffer `n` handed to the bus, its flag still to be raised. -/
def State.served (s : State) (n : Fin Config.nTx) : State := (s.busSend (frameOf s.reg.tx[n])).setRequest false n

theorem served_withTransmitState (s v : State) (n : Fin Config.nTx) :
    (s.withTransmitState v).served n = s.withTransmitState (v.served n) := rfl

/-- One request in NORMAL mode is served at once (R295, R298, R299). -/
theorem requestOne_of_normal {s : State} (hm : s.mode = modeNormal) (n : Fin Config.nTx) :
    requestOne s n = raised (flagTx n) (s.served n) := by
  have hsend : doSend n (s.setRequest true n) = _ := doSend_normal n _ hm
  rw [requestOne, setTxCtrlBit_setTxCtrlBit, trySend, if_pos (txreq_setRequest s n), hsend, setRequest_tx, if_pos rfl,
    frameOf_withRequest]
  exact congrArg _ (setRequest_setTxCtrlBit true false (s.busSend (frameOf s.reg.tx[n])) n)

/-- The flags TXnIF of the buffers of a list. -/
def txFlags (l : List (Fin Config.nTx)) : Byte := l.foldl (fun fl n => fl ||| flagTx n) 0x00

theorem txFlags_append_singleton (l : List (Fin Config.nTx)) (n : Fin Config.nTx) :
    txFlags (l ++ [n]) = txFlags l ||| flagTx n := by
  simp [txFlags]

/-- In NORMAL mode the arbiter hands over the frames one after another and raises all their flags, as if at the end. -/
theorem foldl_requestOne_of_normal {s : State} (hm : s.mode = modeNormal) (hi : InterruptsCurrent s)
    (l : List (Fin Config.nTx)) :
    l.foldl requestOne s = (raised (txFlags l) s).withTransmitState (l.foldl State.served s) := by
  have hawake : s.mode ≠ modeSleep := by rw [hm]; decide
  have htx : ∀ (n : Fin Config.nTx) (i : Fin Config.nRx), bit (flagTx n) (rxifBit i) = false := by decide
  induction l using List.reverseRecOn with
  | nil => exact (congrArg (State.withTransmitState · s) (raised_none_of_interruptsCurrent hi)).symm
  | append_singleton l n ih =>
    have hmode : ((raised (txFlags l) s).withTransmitState (l.foldl State.served s)).mode = modeNormal :=
      (raised_mode_of_not_sleep _ hawake).trans hm
    rw [List.foldl_concat, List.foldl_concat, ih, requestOne_of_normal hmode, served_withTransmitState,
      raised_withTransmitState, raised_raised hawake hi (htx n), txFlags_append_singleton]

/-! ### What serving a list of buffers leaves -/

theorem served_eq (s : State) (n : Fin Config.nTx) :
    s.served n = (s.setRequest false n).busSend (frameOf s.reg.tx[n]) := rfl

theorem foldl_setRequest_busSend (b : Bool) (l : List (Fin Config.nTx)) (s : State) (f : Frame) :
    l.foldl (State.setRequest b) (s.busSend f) = (l.foldl (State.setRequest b) s).busSend f :=
  List.foldl_hom (State.busSend · f) (g₁ := State.setRequest b) (g₂ := State.setRequest b) fun _ _ => rfl

theorem foldl_served_reg_tx (l : List (Fin Config.nTx)) (s : State) :
    (l.foldl State.served s).reg.tx = (l.foldl (State.setRequest false) s).reg.tx := by
  induction l generalizing s with
  | nil => rfl
  | cons n l ih =>
    rw [List.foldl_cons, ih, served_eq, foldl_setRequest_busSend]
    rfl

/-- The frames handed over are those the buffers held at the start. -/
theorem foldl_served_out (l : List (Fin Config.nTx)) (s : State) :
    (l.foldl State.served s).out =
      { s.out with busSent := s.out.busSent ++ l.map fun n => frameOf s.reg.tx[n] } := by
  induction l generalizing s with
  | nil => simp
  | cons n l ih =>
    have hframe : ∀ m : Fin Config.nTx, frameOf (s.served n).reg.tx[m] = frameOf s.reg.tx[m] := fun m => by
      rw [State.served, setRequest_tx]
      split
      · next e => rw [e]; rfl
      · rfl
    have hout : (s.served n).out = { s.out with busSent := s.out.busSent ++ [frameOf s.reg.tx[n]] } := rfl
    rw [List.foldl_cons, ih, hout, funext hframe, List.map_cons, List.append_assoc]
    rfl

theorem bit_txFlags_iff (l : List (Fin Config.nTx)) {i : Nat} (hi : i < 8) :
    bit (txFlags l) i = true ↔ ∃ n ∈ l, i = txifBit n := by
  have hflag : ∀ (n : Fin Config.nTx) (j : Fin 8), bit (flagTx n) j = true ↔ j = txifBit n := by decide
  induction l using List.reverseRecOn with
  | nil => simp [txFlags, bit]
  | append_singleton l n ih =>
    rw [txFlags_append_singleton, bit_or, Bool.or_eq_true, hflag n ⟨i, hi⟩]
    simp [ih, or_and_right, exists_or]

/-- The bitmap, moved to the places of TXnIF, is the flags of the buffers it names. -/
theorem txFlags_sendOrder (txp : Fin Config.nTx → BitVec 2) (bitmap : BitVec 3) :
    txFlags (sendOrder txp bitmap) = bitmap.setWidth 8 <<< 2 := by
  have hplace : ∀ (m : BitVec 3) (i : Fin 8),
      bit (m.setWidth 8 <<< 2) i = true ↔ ∃ n : Fin Config.nTx, m.getLsbD n.val = true ∧ i = txifBit n := by decide
  apply byte_ext
  intro i hi
  rw [Bool.eq_iff_iff, bit_txFlags_iff _ hi, hplace bitmap ⟨i, hi⟩]
  simp only [mem_sendOrder]

theorem requestToSend_of_normal (bitmap : BitVec 3) {s : State} (habat : s.abat = false) (hm : s.mode = modeNormal)
    (hi : InterruptsCurrent s) :
    requestToSend bitmap s = (raised (bitmap.setWidth 8 <<< 2) s).withTransmitState
      ((sendOrder (fun n => txpField s.reg.tx[n].ctrl) bitmap).foldl State.served s) := by
  rw [requestToSend, habat, if_neg (by decide), foldl_requestOne_of_normal hm hi, txFlags_sendOrder]

theorem raised_spi (fl : Byte) (s : State) : (raised fl s).spi = s.spi := by
  unfold raised
  dsimp only
  split <;> rfl

/-- Settles O24: the flags of all named buffers raised at once, and what serving the buffers in order leaves. -/
theorem rtsInNormalModeSends : Obligations.RtsInNormalModeSends := by
  intro nnn s habat hm hi
  refine ⟨_, _, exec_rts nnn s, rfl, fun n => ?_, ?_⟩ <;> rw [requestToSend_of_normal nnn habat hm hi]
  · simp only [State.reply_reg, State.goto_reg, State.withTransmitState, foldl_served_reg_tx, foldl_setRequest_tx,
      mem_sendOrder]
    rfl
  · simp only [State.reply, State.goto, State.withTransmitState, foldl_served_out, raised_spi]

end Sys2Proof.Machine
end

section
/-! SUPPORT. The side effects of register writes (43_register_update.md): one lemma per address says what the write routine
does there, and the statements about the write of each register follow from it. -/

namespace Sys2Proof.Machine

open Sys2Proof

/-- What a write does at an address, read off the row of the address map it stands in (R230). -/
theorem update_of_resolve {a : Addr} {sl : Slot} {m : Byte} {gated modifiable : Bool}
    (h : resolve a = ⟨sl, m, gated, modifiable⟩) (v : Byte) (s : State) :
    update a v s = sideEffect sl (s.setSlot sl (mergeMasked (s.reg.get sl) v m)) := by
  rw [update, maskedStore, State.raw, h]

/-! ### Registers without side effect -/

/-- Settles O31: such a write is the masked store, and only the addressed slot is stored to. -/
theorem plainRegisterWrites : Obligations.PlainRegisterWrites := by
  intro a v s hplain
  rw [update_plain hplain]
  refine ⟨_, rfl, rfl, raw_maskedStore a v s, fun hread => ?_, fun c hc => ?_⟩
  · have hopen : ¬((resolve a).configOnlyRead = true ∧ (maskedStore a v s).mode ≠ modeConfig) := by
      simpa [or_iff_not_imp_left] using hread
    exact if_neg hopen
  · have hraw : (maskedStore a v s).raw c = s.raw c := get_maskedStore_of_ne a v s hc
    exact ⟨hraw, by rw [memRead, memRead, hraw, maskedStore_mode]⟩

/-! ### The buffer-full pins -/

/-- A write to bfpctrl is the merge of the byte, then both pins computed anew (R232). -/
theorem update_bfpctrl (v : Byte) (s : State) :
    update 0x0C v s = recomputeRxnbf 1 (recomputeRxnbf 0 (s.setSlot .bfpctrl (mergeMasked s.reg.bfpctrl v 0x3F))) :=
  update_of_resolve (show resolve 0x0C = ⟨.bfpctrl, 0x3F, false, true⟩ by decide) v s

/-- The mode, enable and level bits of bfpctrl are all writable (R38). -/
theorem bit_mergeMasked_bfpctrl (old v : Byte) {i : Nat} (hi : i < 6) : bit (mergeMasked old v 0x3F) i = bit v i := by
  have hmask : ∀ j : Fin 6, bit 0x3F j = true := by decide
  rw [bit_mergeMasked, hmask ⟨i, hi⟩, if_pos rfl]

/-- The level of pin RXnBF right after bfpctrl was written (R345). -/
theorem rxnbfLevel_bfpctrl_written (r : RegFile) (v : Byte) (i : Fin Config.nRx) :
    rxnbfLevel { r with bfpctrl := mergeMasked r.bfpctrl v 0x3F } i =
      (!bit v (bfeBit i) || (if bit v (bfmBit i) then !r.rxFull i else bit v (bfsBit i))) := by
  have hplace : ∀ j : Fin Config.nRx, bfeBit j < 6 ∧ bfmBit j < 6 ∧ bfsBit j < 6 := by decide
  obtain ⟨he, hm, hs⟩ := hplace i
  rw [rxnbfLevel, bit_mergeMasked_bfpctrl _ _ he, bit_mergeMasked_bfpctrl _ _ hm, bit_mergeMasked_bfpctrl _ _ hs]
  cases bit v (bfeBit i) <;> rfl

/-- Settles O32: the two levels are `rxnbfLevel_bfpctrl_written` for the buffers 0 and 1. -/
theorem bufferPinControlWrite : Obligations.BufferPinControlWrite := by
  intro v s
  have h0 := rxnbfLevel_bfpctrl_written s.reg v 0
  have h1 := rxnbfLevel_bfpctrl_written s.reg v 1
  calc update 0x0C v s
    _ = { s with
          reg := { s.reg with bfpctrl := mergeMasked s.reg.bfpctrl v 0x3F }
          pin := { s.pin with
            rx0bf := rxnbfLevel { s.reg with bfpctrl := mergeMasked s.reg.bfpctrl v 0x3F } 0
            rx1bf := rxnbfLevel { s.reg with bfpctrl := mergeMasked s.reg.bfpctrl v 0x3F } 1 } } := update_bfpctrl v s
    _ = _ := by rw [h0, h1]; rfl

/-! ### The control bytes of the RX buffers -/

theorem setBit_eq_or_oneBit (v : Byte) {i : Nat} (hi : i < 8) (b : Bool) :
    setBit v i b = (v &&& ~~~(1#8 <<< i)) ||| oneBit i b := by
  apply byte_ext
  intro j _
  have hclear : bit (v &&& ~~~(1#8 <<< i)) j = if j = i then false else bit v j := bit_setBit v i j false hi
  rw [bit_setBit _ _ _ _ hi, bit_or, hclear, bit_oneBit hi]
  by_cases hj : j = i <;> simp [hj]

/-- rx[0].ctrl after a write: RXM and BUKT from the byte written, BUKT1 from its BUKT, the rest as it was (R234). -/
theorem rx0Ctrl_written (old v : Byte) :
    setBit (mergeMasked old v 0x64) bukt1Bit (bit (mergeMasked old v 0x64) buktBit) =
      (old &&& 0x99) ||| (v &&& 0x64) ||| (if bit v 2 then 0x02 else 0x00) := by
  have hbukt : bit (mergeMasked old v 0x64) buktBit = bit v 2 := by
    rw [bit_mergeMasked, if_pos (by decide)]
    rfl
  have hone : oneBit bukt1Bit (bit v 2) = if bit v 2 then 0x02 else 0x00 := by
    cases bit v 2 <;> rfl
  rw [hbukt, setBit_eq_or_oneBit _ (by decide), hone]
  congr 1
  calc mergeMasked old v 0x64 &&& 0xFD
    _ = (old &&& 0x9B &&& 0xFD) ||| (v &&& 0x64 &&& 0xFD) := BitVec.and_or_distrib_right
    _ = (old &&& 0x99) ||| (v &&& 0x64) := by rw [BitVec.and_assoc, BitVec.and_assoc]; rfl

/-- A write to rx[0].ctrl is the merge of the byte, then the mirror of BUKT (R234). -/
theorem update_rx0Ctrl (v : Byte) (s : State) :
    update 0x60 v s = mirrorBukt (s.setRx 0 { s.reg.rx[0] with ctrl := mergeMasked s.reg.rx[0].ctrl v 0x64 }) :=
  update_of_resolve (show resolve 0x60 = ⟨.rx 0 .ctrl, 0x64, false, true⟩ by decide) v s

/-- A write to rx[1].ctrl has no side effect (R237). -/
theorem update_rx1Ctrl (v : Byte) (s : State) :
    update 0x70 v s = s.setRx 1 { s.reg.rx[1] with ctrl := mergeMasked s.reg.rx[1].ctrl v 0x60 } :=
  update_of_resolve (show resolve 0x70 = ⟨.rx 1 .ctrl, 0x60, false, true⟩ by decide) v s

/-- Settles O35: the byte the mirror leaves is that of `rx0Ctrl_written`. -/
theorem buktWriteIsMirrored : Obligations.BuktWriteIsMirrored := by
  intro v s
  refine ⟨?_, update_rx1Ctrl v s⟩
  rw [update_rx0Ctrl, ← rx0Ctrl_written]
  simp [mirrorBukt, State.setRx]

/-! ### The interrupt registers -/

/-- A write to caninte stores the byte and recomputes the interrupt state (R231). -/
theorem update_caninte (v : Byte) (s : State) :
    update 0x2B v s = irqRecompute { s with reg := { s.reg with caninte := v } } := by
  rw [update_of_resolve (show resolve 0x2B = ⟨.caninte, 0xFF#8, false, true⟩ by decide), mergeMasked_ones]
  rfl

/-- A write to canintf stores the byte and recomputes the interrupt state (R231). -/
theorem update_canintf (v : Byte) (s : State) :
    update 0x2C v s = irqRecompute { s with reg := { s.reg with canintf := v } } := by
  rw [update_of_resolve (show resolve 0x2C = ⟨.canintf, 0xFF#8, false, true⟩ by decide), mergeMasked_ones]
  rfl

/-- Settles O36: neither store touches the mode, the requests or ABAT, so the recomputation is `raised`. -/
theorem interruptRegisterWrites : Obligations.InterruptRegisterWrites := by
  intro v s hl hq
  rw [update_caninte, update_canintf]
  exact ⟨irqRaise_eq_raised 0x00 _ hl hq, irqRaise_eq_raised 0x00 _ hl hq⟩

/-! ### The control bytes of the TX buffers -/

/-- The state with the control byte of TX buffer `n` made `c`. -/
def State.setTxCtrl (s : State) (n : Fin Config.nTx) (c : Byte) : State := s.setTx n { s.reg.tx[n] with ctrl := c }

theorem setTxCtrl_tx (s : State) (n : Fin Config.nTx) (c : Byte) :
    (s.setTxCtrl n c).reg.tx[n] = { s.reg.tx[n] with ctrl := c } :=
  (tx_getElem_set _ _ _ _).trans (if_pos rfl)

/-- Changing a bit of a control byte just written is writing another byte. -/
theorem setTxCtrl_setTxCtrlBit (s : State) (n : Fin Config.nTx) (c : Byte) (i : Nat) (b : Bool) :
    (s.setTxCtrl n c).setTxCtrlBit n i b = s.setTxCtrl n (setBit c i b) := by
  rw [State.setTxCtrlBit, setTxCtrl_tx]
  exact setTx_setTx s n _ _

theorem txreq_setTxCtrl (s : State) (n : Fin Config.nTx) (c : Byte) : (s.setTxCtrl n c).txreq n = bit c txreqBit := by
  rw [State.txreq, setTxCtrl_tx]

/-- A frame is built from the other bytes of the buffer (R296). -/
theorem frameOf_setTxCtrl (s : State) (n : Fin Config.nTx) (c : Byte) :
    frameOf (s.setTxCtrl n c).reg.tx[n] = frameOf s.reg.tx[n] := by
  rw [setTxCtrl_tx]
  rfl

theorem resolve_txCtrlAddress : ∀ n : Fin Config.nTx,
    resolve (txCtrlAddress n) = ⟨.tx n .ctrl, 0x0B, false, true⟩ := by
  decide

/-- A write to tx[n].ctrl is the merge of the byte, then what ABAT selects (R235, R236). -/
theorem update_txCtrl (n : Fin Config.nTx) (v : Byte) (s : State) :
    update (txCtrlAddress n) v s =
      txCtrlWritten n (s.setTxCtrl n (mergeMasked s.reg.tx[n].ctrl v (resolve (txCtrlAddress n)).writeMask)) := by
  rw [update_of_resolve (resolve_txCtrlAddress n), resolve_txCtrlAddress]
  rfl

/-- While ABAT is set the request is dropped (R235). -/
theorem update_txCtrl_of_abat (n : Fin Config.nTx) (v : Byte) {s : State} (h : s.abat = true) :
    update (txCtrlAddress n) v s =
      s.setTxCtrl n (setBit (mergeMasked s.reg.tx[n].ctrl v (resolve (txCtrlAddress n)).writeMask) txreqBit false) := by
  rw [update_txCtrl, ← setTxCtrl_setTxCtrlBit]
  exact if_pos h

/-- While ABAT is clear the mark ABTF is cleared and the buffer tried (R236). -/
theorem update_txCtrl_of_not_abat (n : Fin Config.nTx) (v : Byte) {s : State} (h : s.abat = false) :
    update (txCtrlAddress n) v s = trySend n
      (s.setTxCtrl n (setBit (mergeMasked s.reg.tx[n].ctrl v (resolve (txCtrlAddress n)).writeMask) abtfBit false)) := by
  rw [update_txCtrl, ← setTxCtrl_setTxCtrlBit]
  exact if_neg (Bool.eq_false_iff.1 h)

/-- Settles O33: the write mask does not cover ABTF. -/
theorem txControlWriteUnderAbat : Obligations.TxControlWriteUnderAbat := by
  intro n v s habat
  have hmask : bit 0x0B abtfBit ≠ true := by decide
  refine ⟨_, rfl, ?_, bit_setBit_same _ _ _ (by decide), update_txCtrl_of_abat n v habat⟩
  rw [bit_setBit_ne _ _ (by decide) (by decide), bit_mergeMasked, resolve_txCtrlAddress, if_neg hmask]

/-! ### The receive path and the TX buffers -/

theorem irqRaiseAwake_withTransmitState (fl : Byte) (s v : State) :
    irqRaiseAwake fl (s.withTransmitState v) = (irqRaiseAwake fl s).withTransmitState v := by
  simp only [irqRaiseAwake, irqRaiseWith, ite_self, apply_ite (State.withTransmitState · v)]
  rfl

/-- The receive path neither reads nor changes TX buffers and outputs (R271). -/
theorem receiveAwake_withTransmitState (f : Frame) (s v : State) :
    receiveWith irqRaiseAwake f (s.withTransmitState v) = (receiveWith irqRaiseAwake f s).withTransmitState v := by
  have hstore : ∀ b k, dispatchWith irqRaiseAwake f b k (s.withTransmitState v) =
      (dispatchWith irqRaiseAwake f b k s).withTransmitState v := fun b k =>
    irqRaiseAwake_withTransmitState _ (s.setRx b (storedBuffer f b k s.reg.rx[b])) v
  have hoverflow : ∀ n, raiseConditionWith irqRaiseAwake (.rxOverflow n) (s.withTransmitState v) =
      (raiseConditionWith irqRaiseAwake (.rxOverflow n) s).withTransmitState v := fun n =>
    irqRaiseAwake_withTransmitState _ (s.setEflg (setBit s.reg.eflg (rxovrBit n) true)) v
  have hfilters : ∀ b, checkFilters f b (s.withTransmitState v).reg = checkFilters f b s.reg := fun _ => rfl
  have hfull : ∀ n, (s.withTransmitState v).reg.rxFull n = s.reg.rxFull n := fun _ => rfl
  have haccept : ∀ k, acceptFor0With irqRaiseAwake f k (s.withTransmitState v) =
      (acceptFor0With irqRaiseAwake f k s).withTransmitState v := fun k => by
    simp only [acceptFor0With, hfull, hstore, hoverflow, apply_ite (State.withTransmitState · v)]
    rfl
  have hoffer : offerTo1With irqRaiseAwake f (s.withTransmitState v) =
      (offerTo1With irqRaiseAwake f s).withTransmitState v := by
    unfold offerTo1With
    rw [hfilters]
    cases checkFilters f 1 s.reg with
    | matched k => simp only [hfull, hstore, hoverflow, apply_ite (State.withTransmitState · v)]
    | invalidConfig => rfl
    | noMatch => rfl
  unfold receiveWith
  rw [hfilters]
  cases checkFilters f 0 s.reg with
  | matched k => exact haccept k
  | invalidConfig => exact hoffer
  | noMatch => exact hoffer

/-- What is received in LOOPBACK mode does not depend on TX buffers and outputs (R297). -/
theorem receivedAsInListen_withTransmitState {f : Frame} (hf : CleanFrame f) {s : State} (hm : s.mode = modeLoopback)
    (v : State) : receivedAsInListen f (s.withTransmitState v) = (receivedAsInListen f s).withTransmitState v := by
  have hreceive : ∀ t : State, t.mode = modeLoopback → receivedAsInListen f t = receiveWith irqRaiseAwake f t :=
    fun t ht => by
      have hclean : ¬(f.err = true ∨ f.flags ≠ 0) := by simp [hf.1, hf.2]
      have hawake : t.mode ≠ modeSleep := by rw [ht]; decide
      rw [← onFrame_loopback f t hf ht, onFrameWith, if_neg hclean, if_neg hawake]
  rw [hreceive s hm, hreceive (s.withTransmitState v) hm, receiveAwake_withTransmitState]

/-! ### A request written to a TX control byte -/

theorem raised_out (fl : Byte) (s : State) : (raised fl s).out = s.out := by
  unfold raised
  dsimp only
  split <;> rfl

/-- A buffer whose control byte was just written, sent in NORMAL mode (R295, R298, R299). -/
theorem doSend_setTxCtrl_of_normal (n : Fin Config.nTx) (c : Byte) {s : State} (hm : s.mode = modeNormal) :
    doSend n (s.setTxCtrl n c) = (raised (flagTx n) s).withTransmitState
      ((s.busSend (frameOf s.reg.tx[n])).setTxCtrl n (setBit c txreqBit false)) := by
  rw [doSend_normal n (s.setTxCtrl n c) hm, frameOf_setTxCtrl, ← raised_withTransmitState]
  exact congrArg (raised (flagTx n)) (setTxCtrl_setTxCtrlBit (s.busSend (frameOf s.reg.tx[n])) n c txreqBit false)

/-- A buffer whose control byte was just written, looped back (R295, R297, R299). -/
theorem doSend_setTxCtrl_of_loopback (n : Fin Config.nTx) (c : Byte) {s : State} (hm : s.mode = modeLoopback) :
    doSend n (s.setTxCtrl n c) = (loopedBack (fun m => frameOf s.reg.tx[m]) s n).withTransmitState
      (s.setTxCtrl n (setBit c txreqBit false)) := by
  have hreceived : receivedAsInListen (frameOf s.reg.tx[n]) (s.setTxCtrl n c) =
      (receivedAsInListen (frameOf s.reg.tx[n]) s).withTransmitState (s.setTxCtrl n c) :=
    receivedAsInListen_withTransmitState ⟨rfl, rfl⟩ hm (s.setTxCtrl n c)
  rw [doSend_loopback n (s.setTxCtrl n c) hm, frameOf_setTxCtrl, hreceived, loopedBack, ← raised_withTransmitState,
    ← setTxCtrl_setTxCtrlBit]
  rfl

/-- With TXREQ 0, or in a mode that does not send, nothing follows the write (R294, R300). -/
theorem trySend_setTxCtrl_of_idle (n : Fin Config.nTx) {c : Byte} {s : State}
    (h : bit c txreqBit = false ∨ (s.mode ≠ modeNormal ∧ s.mode ≠ modeLoopback)) :
    trySend n (s.setTxCtrl n c) = s.setTxCtrl n c := by
  rcases h with hreq | hm
  · rw [trySend, txreq_setTxCtrl, hreq, if_neg (by decide)]
  · have hsends : (s.setTxCtrl n c).sends = false := decide_eq_false (not_or.2 hm)
    rw [trySend, doSend_of_not_sends n _ hsends, ite_self]

theorem trySend_setTxCtrl_of_request (n : Fin Config.nTx) {c : Byte} {s : State} (h : bit c txreqBit = true) :
    trySend n (s.setTxCtrl n c) = doSend n (s.setTxCtrl n c) :=
  if_pos ((txreq_setTxCtrl s n c).trans h)

/-- Raising TXnIF sets it, whatever the effective set is. -/
theorem bit_raised_flagTx (n : Fin Config.nTx) (s : State) : bit (raised (flagTx n) s).reg.canintf (2 + n.val) = true := by
  have hflag : ∀ m : Fin Config.nTx, bit (flagTx m) (2 + m.val) = true := by decide
  rw [raised_reg_canintf, bit_or, hflag, Bool.or_true]

/-- Settles O34: the write is `trySend` of the buffer with its new control byte; a request is served as
`doSend_setTxCtrl_of_normal` and `doSend_setTxCtrl_of_loopback` say. -/
theorem txControlWriteWithoutAbat : Obligations.TxControlWriteWithoutAbat := by
  intro n v s habat
  refine ⟨_, _, rfl, rfl, ?_⟩
  rw [update_txCtrl_of_not_abat n v habat]
  generalize setBit (mergeMasked s.reg.tx[n].ctrl v (resolve (txCtrlAddress n)).writeMask) abtfBit false = c
  refine ⟨trySend_setTxCtrl_of_idle n, fun hreq hm => ?_, fun hreq hm => ?_, fun hreq hm => ⟨_, rfl, ?_⟩⟩ <;>
    rw [trySend_setTxCtrl_of_request n hreq]
  · rcases hm with hm | hm
    · rw [doSend_setTxCtrl_of_normal n c hm, if_pos hm]
      exact ⟨rfl, bit_raised_flagTx n s, rfl⟩
    · rw [doSend_setTxCtrl_of_loopback n c hm, if_neg (by rw [hm]; decide)]
      exact ⟨rfl, bit_raised_flagTx n (receivedAsInListen (frameOf s.reg.tx[n]) s), rfl⟩
  · rw [doSend_setTxCtrl_of_normal n c hm]
    rfl
  · have hout : (loopedBack (fun m => frameOf s.reg.tx[m]) s n).out = s.out := raised_out _ _
    rw [doSend_setTxCtrl_of_loopback n c hm, State.withTransmitState, hout]
    rfl

end Sys2Proof.Machine
end

section
/-! SUPPORT. The two packings of an identifier, the word of a frame (R250) and the word of a filter (R256), as bit
fields side by side; what one acceptance filter accepts (R257 to R261) and the order in which filters are tried (R254,
R255). -/

namespace Sys2Proof

/-! ### The packed word of a frame -/

/-- The packed word is the kind, the two marks and the identifier side by side (R250, D22). -/
theorem Frame.idWord_eq_append (f : Frame) :
    f.idWord = BitVec.ofBool f.ext ++ BitVec.ofBool f.rtr ++ BitVec.ofBool f.err ++ f.id := by
  rw [← BitVec.setWidth_eq (BitVec.ofBool f.ext ++ _ ++ _ ++ _),
    BitVec.setWidth_append_append_append_eq_shiftLeft_setWidth_or]
  rfl

theorem Frame.idWord_ofIdWord (w : Word) (flags : BitVec 8) (len : BitVec 4) (data : Vector Byte 8) :
    (Frame.ofIdWord w flags len data).idWord = w := by
  have hbit : ∀ i, BitVec.ofBool (w.getLsbD i) = w.extractLsb' i 1 := fun i => by
    ext j hj
    obtain rfl : j = 0 := by omega
    simp
  have hjoin : ∀ i m n, w.extractLsb' (i + n) m ++ w.extractLsb' i n = w.extractLsb' i (m + n) :=
    fun _ _ _ => BitVec.extractLsb'_append_extractLsb'_eq_extractLsb' rfl
  have h30 := hjoin 30 1 1
  have h29 := hjoin 29 2 1
  have h0 := hjoin 0 3 29
  calc (Frame.ofIdWord w flags len data).idWord
      = w.extractLsb' 31 1 ++ w.extractLsb' 30 1 ++ w.extractLsb' 29 1 ++ w.extractLsb' 0 29 := by
        simp only [Frame.idWord_eq_append, Frame.ofIdWord, hbit]
    _ = w.extractLsb' 0 32 := by
        rw [h30, h29, h0]
    _ = w := BitVec.extractLsb'_eq_self

theorem Frame.getLsbD_idWord (f : Frame) :
    f.idWord.getLsbD 31 = f.ext ∧ f.idWord.getLsbD 30 = f.rtr ∧ f.idWord.getLsbD 29 = f.err := by
  simp only [Frame.idWord_eq_append, BitVec.getLsbD_append]
  simp

/-- Settles O4: the word is its four fields side by side, and taking fields side by side apart gives each back. -/
theorem frameIdentifierWordRoundTrip : Obligations.FrameIdentifierWordRoundTrip := by
  refine ⟨fun f => ?_, Frame.idWord_ofIdWord, fun f => ?_⟩ <;> obtain ⟨hext, hrtr, herr⟩ := f.getLsbD_idWord
  · have hid : f.idWord.extractLsb' 0 29 = f.id := by
      rw [Frame.idWord_eq_append]
      exact BitVec.extractLsb'_append_eq_right
    rw [Frame.ofIdWord, hid, hext, hrtr, herr]
  · refine ⟨hext, hrtr, herr, ?_⟩
    calc f.idWord &&& 0x1FFFFFFF
        = 0#3 ++ f.idWord.setWidth 29 := BitVec.and_setWidth_allOnes 3 29 f.idWord
      _ = 0#3 ++ f.id := by rw [Frame.idWord_eq_append, BitVec.setWidth_append_eq_right]
      _ = f.id.setWidth 32 := (BitVec.setWidth_eq_append (by decide)).symm

end Sys2Proof

namespace Sys2Proof.Machine

open Sys2Proof

/-! ### The identifier in the four bytes of a filter, a mask or a buffer -/

/-- The 11-bit identifier in an identifier group: sidh above sidl[7:5] (R24, R256). -/
def IdRegs.sid (r : IdRegs) : BitVec 11 := r.sidh ++ r.sidl.extractLsb' 5 3

/-- The 29-bit identifier in an identifier group (R256). -/
def IdRegs.eid (r : IdRegs) : BitVec 29 := r.sid ++ r.sidl.extractLsb' 0 2 ++ r.eid8 ++ r.eid0

theorem IdRegs.setWidth_sid (r : IdRegs) (w : Nat) :
    r.sid.setWidth w = (r.sidh.setWidth w <<< 3) ||| (r.sidl.extractLsb' 5 3).setWidth w :=
  BitVec.setWidth_append_eq_shiftLeft_setWidth_or

theorem IdRegs.setWidth_eid (r : IdRegs) (w : Nat) :
    r.eid.setWidth w = (r.sid.setWidth w <<< 18) ||| ((r.sidl.extractLsb' 0 2).setWidth w <<< 16) |||
      (r.eid8.setWidth w <<< 8) ||| r.eid0.setWidth w :=
  BitVec.setWidth_append_append_append_eq_shiftLeft_setWidth_or

/-- `pack` is the 29-bit identifier (R256). -/
theorem pack_eq (r : IdRegs) : pack r = r.eid.setWidth 32 := by
  rw [r.setWidth_eid, r.setWidth_sid, BitVec.shiftLeft_or_distrib, ← BitVec.shiftLeft_add]
  rfl

theorem toNat_append_eq {m n : Nat} (x : BitVec m) (y : BitVec n) : (x ++ y).toNat = x.toNat * 2 ^ n + y.toNat := by
  rw [BitVec.toNat_append, ← Nat.shiftLeft_add_eq_or_of_lt y.isLt, Nat.shiftLeft_eq]

theorem IdRegs.toNat_sid (r : IdRegs) : r.sid.toNat = 8 * r.sidh.toNat + r.sidl.toNat / 32 := by
  have h := r.sidl.isLt
  rw [IdRegs.sid, toNat_append_eq, BitVec.extractLsb'_toNat, Nat.shiftRight_eq_div_pow]
  omega

theorem IdRegs.toNat_eid (r : IdRegs) :
    r.eid.toNat = r.sid.toNat * 2 ^ 18 + r.sidl.toNat % 4 * 2 ^ 16 + r.eid8.toNat * 2 ^ 8 + r.eid0.toNat := by
  simp only [IdRegs.eid, toNat_append_eq, BitVec.extractLsb'_toNat, Nat.shiftRight_zero]
  omega

theorem toNat_stdId (f : Frame) : (stdId f).toNat = f.id.toNat % 2048 := by
  rw [stdId, BitVec.extractLsb'_toNat, Nat.shiftRight_zero]

theorem getLsbD_pack_eid (r : IdRegs) {i : Nat} (hi : i < 29) : (pack r).getLsbD i = r.eid.getLsbD i := by
  rw [pack_eq, BitVec.getLsbD_setWidth, decide_eq_true (by omega), Bool.true_and]

theorem getLsbD_pack_sid (r : IdRegs) {i : Nat} (hi : i < 11) : (pack r).getLsbD (18 + i) = r.sid.getLsbD i := by
  rw [getLsbD_pack_eid r (by omega), IdRegs.eid, BitVec.getLsbD_append, if_neg (by omega), BitVec.getLsbD_append,
    if_neg (by omega), BitVec.getLsbD_append, if_neg (by omega)]
  congr 1
  omega

/-! ### Masked comparison -/

/-- Two words agree under a mask when they agree on each bit of the mask. -/
theorem masked_eq_zero_iff {w : Nat} (m v u : BitVec w) :
    m &&& (v ^^^ u) = 0 ↔ ∀ i, i < w → m.getLsbD i = true → v.getLsbD i = u.getLsbD i := by
  constructor
  · intro h i _ hm
    have hbit := congrArg (·.getLsbD i) h
    simpa [hm] using hbit
  · intro h
    apply BitVec.eq_of_getLsbD_eq
    intro i hi
    cases hm : m.getLsbD i with
    | false => simp [hm]
    | true => simp [h i hi hm]

/-- Words side by side agree under a mask when each part does. -/
theorem masked_append_eq_zero_iff {m n : Nat} (a b c : BitVec m) (x y z : BitVec n) :
    (a ++ x) &&& ((b ++ y) ^^^ (c ++ z)) = 0 ↔ a &&& (b ^^^ c) = 0 ∧ x &&& (y ^^^ z) = 0 := by
  have hinj : ∀ (v : BitVec m) (u : BitVec n), v ++ u = 0 ↔ v = 0 ∧ u = 0 := by
    intro v u
    simp only [← BitVec.toNat_inj, toNat_append_eq, BitVec.ofNat_eq_ofNat, BitVec.toNat_ofNat, Nat.zero_mod,
      Nat.add_eq_zero_iff, Nat.mul_eq_zero]
    simp
  rw [BitVec.xor_append, BitVec.and_append, hinj]

/-- Under the all-ones mask agreement is equality. -/
theorem allOnes_masked_eq_zero_iff {w : Nat} (v u : BitVec w) : BitVec.allOnes w &&& (v ^^^ u) = 0 ↔ u = v := by
  rw [BitVec.allOnes_and]
  exact BitVec.xor_eq_zero_iff.trans eq_comm

/-- A payload byte the frame has is compared with the filter's under the mask; one it does not have is not (R258). -/
theorem masked_filterByte_iff (m e d : Byte) (rtr : Bool) (n len : Nat) :
    m &&& (e ^^^ if !rtr && decide (n ≤ len) then d else e) = 0 ↔
      (rtr = false → n ≤ len → m &&& (e ^^^ d) = 0) := by
  cases rtr with
  | true => simp
  | false => by_cases hn : n ≤ len <;> simp [hn]

/-! ### What a filter accepts -/

/-- The kinds agree, and the filter value and the frame value agree under the mask (R259, D17). -/
theorem matchesFilter_iff {f : Frame} {msk flt : IdRegs} {m v u : BitVec 29} (hm : pack msk = m.setWidth 32)
    (hv : filterValue f flt = v.setWidth 32) (hu : frameValue f flt = u.setWidth 32) :
    matchesFilter f msk flt = true ↔ f.ext = bit flt.sidl exideBit ∧ m &&& (v ^^^ u) = 0 := by
  have hzero : (m &&& (v ^^^ u)).setWidth 32 = 0 ↔ m &&& (v ^^^ u) = 0 := by
    generalize m &&& (v ^^^ u) = x
    have hx := x.isLt
    simp only [← BitVec.toNat_inj, BitVec.toNat_setWidth, BitVec.ofNat_eq_ofNat, BitVec.toNat_ofNat, Nat.zero_mod]
    omega
  rw [matchesFilter, Bool.and_eq_true, beq_iff_eq, beq_iff_eq, filter_equation, hm, hv, hu, ← BitVec.setWidth_xor,
    ← BitVec.setWidth_and, hzero]

/-- An extended frame: all 29 bits of the identifier are compared (R257). -/
theorem matchesFilter_iff_of_ext {f : Frame} (h : f.ext = true) (msk flt : IdRegs) :
    matchesFilter f msk flt = true ↔ bit flt.sidl exideBit = true ∧ msk.eid &&& (flt.eid ^^^ f.id) = 0 := by
  have hv : filterValue f flt = flt.eid.setWidth 32 := by rw [filterValue, if_pos h, pack_eq]
  have hu : frameValue f flt = f.id.setWidth 32 := by rw [frameValue, if_pos h]
  rw [matchesFilter_iff (pack_eq msk) hv hu, h, eq_comm]

/-- A standard frame: the 11-bit identifier and the first two payload bytes are compared, bits 17:16 are not (R258,
D18). -/
theorem matchesFilter_iff_of_std {f : Frame} (h : f.ext = false) (msk flt : IdRegs) :
    matchesFilter f msk flt = true ↔ bit flt.sidl exideBit = false ∧ msk.sid &&& (flt.sid ^^^ stdId f) = 0 ∧
      (f.rtr = false → 1 ≤ f.len.toNat → msk.eid8 &&& (flt.eid8 ^^^ f.data[0]) = 0) ∧
      (f.rtr = false → 2 ≤ f.len.toNat → msk.eid0 &&& (flt.eid0 ^^^ f.data[1]) = 0) := by
  have hv : filterValue f flt = (flt.sid ++ 0#2 ++ flt.eid8 ++ flt.eid0).setWidth 32 := by
    have hmask : ~~~0x00030000#32 =
        BitVec.allOnes 3 ++ (BitVec.allOnes 11 ++ 0#2 ++ BitVec.allOnes 8 ++ BitVec.allOnes 8) := by decide
    have hwide : ∀ x : BitVec 29, x.setWidth 32 = 0#3 ++ x := fun _ => BitVec.setWidth_eq_append (by decide)
    rw [filterValue, if_neg (ne_true_of_eq_false h), pack_eq, hmask, hwide, hwide, IdRegs.eid]
    refine BitVec.and_append.trans ?_
    simp only [BitVec.and_append, BitVec.and_allOnes, BitVec.and_zero]
  have hu : frameValue f flt = (stdId f ++ 0#2 ++ filterByte0 f flt ++ filterByte1 f flt).setWidth 32 := by
    rw [frameValue, h, BitVec.setWidth_append_append_append_eq_shiftLeft_setWidth_or]
    simp
  rw [matchesFilter_iff (pack_eq msk) hv hu, h, eq_comm (a := false), IdRegs.eid, masked_append_eq_zero_iff,
    masked_append_eq_zero_iff, masked_append_eq_zero_iff, filterByte0, filterByte1, masked_filterByte_iff,
    masked_filterByte_iff]
  simp [and_assoc]

/-- Settles O41: the masked comparison of `matchesFilter_iff_of_ext` and `matchesFilter_iff_of_std`, bit by bit. -/
theorem filterMatchIsMaskedComparison : Obligations.FilterMatchIsMaskedComparison := by
  intro f msk flt
  refine ⟨fun h => ?_, fun h => ?_⟩
  · rw [matchesFilter_iff_of_ext h, masked_eq_zero_iff]
    exact and_congr_right' (forall₂_congr fun i hi => by rw [getLsbD_pack_eid msk hi, getLsbD_pack_eid flt hi])
  · rw [matchesFilter_iff_of_std h, masked_eq_zero_iff]
    have hsid : ∀ i < 11, (stdId f).getLsbD i = f.id.getLsbD i := fun i hi => by simp [stdId, hi]
    refine and_congr_right' (and_congr_left' (forall₂_congr fun i hi => ?_))
    rw [getLsbD_pack_sid msk hi, getLsbD_pack_sid flt hi, hsid i hi]

/-- Settles O42: under the zero mask every comparison holds, under the all-ones mask each is an equality. -/
theorem zeroMaskAndFullMask : Obligations.ZeroMaskAndFullMask := by
  refine ⟨fun f flt => Bool.eq_iff_iff.2 ?_, fun f flt hstd => ?_⟩
  · have heid : IdRegs.eid ⟨0x00, 0x00, 0x00, 0x00⟩ = 0 := by decide
    have hsid : IdRegs.sid ⟨0x00, 0x00, 0x00, 0x00⟩ = 0 := by decide
    rw [beq_iff_eq, eq_comm (a := f.ext)]
    cases h : f.ext with
    | true =>
      rw [matchesFilter_iff_of_ext h, heid]
      exact and_iff_left BitVec.zero_and
    | false =>
      rw [matchesFilter_iff_of_std h, hsid]
      exact and_iff_left ⟨BitVec.zero_and, fun _ _ => BitVec.zero_and, fun _ _ => BitVec.zero_and⟩
  · cases h : f.ext with
    | true => simp [matchesFilter_iff_of_ext h, exideBit, hstd]
    | false =>
      have hsid : IdRegs.sid ⟨0xFF, 0xE3, 0xFF, 0xFF⟩ = BitVec.allOnes 11 := by decide
      have hbyte : (0xFF : Byte) = BitVec.allOnes 8 := by decide
      rw [matchesFilter_iff_of_std h, hsid, hbyte, allOnes_masked_eq_zero_iff, allOnes_masked_eq_zero_iff,
        allOnes_masked_eq_zero_iff, ← BitVec.toNat_inj, toNat_stdId, IdRegs.toNat_sid, Nat.mul_comm 8]
      exact and_congr_left' (iff_of_true hstd rfl)

/-! ### The order in which filters are tried -/

/-- In an ascending list the first element with a property is the least. -/
theorem find?_eq_some_iff_of_ascending {n : Nat} {l : List (Fin n)} (hl : l.Pairwise (· < ·)) (p : Fin n → Bool)
    (k : Fin n) : l.find? p = some k ↔ k ∈ l ∧ p k = true ∧ ∀ j, j < k → j ∈ l → p j = false := by
  rw [List.find?_eq_some_iff_append]
  constructor
  · rintro ⟨hk, before, after, rfl, hbefore⟩
    obtain ⟨-, hrest, -⟩ := List.pairwise_append.1 hl
    refine ⟨List.mem_append_right _ List.mem_cons_self, hk, fun j hj hmem => ?_⟩
    rcases List.mem_append.1 hmem with hmem | hmem
    · simpa using hbefore j hmem
    · rcases List.mem_cons.1 hmem with rfl | hmem
      · exact absurd hj (lt_irrefl _)
      · exact absurd hj ((List.pairwise_cons.1 hrest).1 j hmem).asymm
  · rintro ⟨hmem, hk, hfirst⟩
    obtain ⟨before, after, rfl⟩ := List.append_of_mem hmem
    obtain ⟨-, -, hless⟩ := List.pairwise_append.1 hl
    refine ⟨hk, before, after, rfl, fun j hj => ?_⟩
    rw [hfirst j (hless j hj k List.mem_cons_self) (List.mem_append_left _ hj)]
    rfl

/-- Filters 0 and 1 belong to buffer 0, filters 2 to 5 to buffer 1 (R255). -/
theorem mem_filtersOf : ∀ (b : Fin Config.nRx) (k : Fin Config.nFilter),
    k ∈ filtersOf b ↔ if b = 0 then k.val < 2 else 2 ≤ k.val := by
  decide

theorem filtersOf_ascending : ∀ b : Fin Config.nRx, (filtersOf b).Pairwise (· < ·) := by
  decide

/-- The first filter of buffer `b` that matches, under the buffer's mask (R254). -/
def firstMatch (f : Frame) (b : Fin Config.nRx) (r : RegFile) : Option (Fin Config.nFilter) :=
  (filtersOf b).find? fun k => matchesFilter f r.masks[b] r.filters[k]

/-- What the filters answer for each value of RXM (R254). -/
theorem checkFilters_cases (f : Frame) (b : Fin Config.nRx) (r : RegFile) :
    (rxmField r.rx[b].ctrl = 0b11 → checkFilters f b r = .matched 0) ∧
    (rxmField r.rx[b].ctrl = 0b01 ∨ rxmField r.rx[b].ctrl = 0b10 → checkFilters f b r = .invalidConfig) ∧
    (rxmField r.rx[b].ctrl = 0b00 →
      checkFilters f b r = (firstMatch f b r).elim .noMatch .matched) := by
  unfold checkFilters
  dsimp only
  refine ⟨fun h => if_pos h, fun h => ?_, fun h => ?_⟩
  · rcases h with h | h <;> rw [h] <;> rfl
  · rw [if_neg (by rw [h]; decide), if_neg (not_not_intro h), firstMatch]
    cases (filtersOf b).find? fun k => matchesFilter f r.masks[b] r.filters[k] <;> rfl

theorem firstMatch_eq_some_iff (f : Frame) (b : Fin Config.nRx) (r : RegFile) (k : Fin Config.nFilter) :
    firstMatch f b r = some k ↔ (if b = 0 then k.val < 2 else 2 ≤ k.val) ∧
      matchesFilter f r.masks[b] r.filters[k] = true ∧
      ∀ j : Fin Config.nFilter, j < k → (if b = 0 then j.val < 2 else 2 ≤ j.val) →
        matchesFilter f r.masks[b] r.filters[j] = false := by
  simp only [firstMatch, find?_eq_some_iff_of_ascending (filtersOf_ascending b), mem_filtersOf]

/-- Settles O43: one case of `checkFilters_cases` for each value of RXM. -/
theorem filterScanOrder : Obligations.FilterScanOrder := by
  intro f b r
  obtain ⟨hall, hinvalid, hscan⟩ := checkFilters_cases f b r
  simp only [← firstMatch_eq_some_iff]
  have hrxm : ∀ m : BitVec 2, m = 0b11 ∨ (m = 0b01 ∨ m = 0b10) ∨ m = 0b00 := by decide
  rcases hrxm (rxmField r.rx[b].ctrl) with h | h | h
  · rw [hall h, h]
    simp [eq_comm]
  · rw [hinvalid h]
    rcases h with h | h <;> rw [h] <;> simp
  · rw [hscan h, h]
    cases firstMatch f b r <;> simp [eq_comm]

end Sys2Proof.Machine
end

section
/-! SUPPORT. What an RX buffer holds after `dispatch` (R263 to R266), field by field, and the frame built from a buffer
(R296). -/

namespace Sys2Proof.Machine

open Sys2Proof

/-! ### The frame of a buffer, field by field -/

theorem frameOf_id (t : Buffer) :
    (frameOf t).id = if bit t.id.sidl exideBit then t.id.eid else t.id.sid.setWidth 29 := by
  have heid := t.id.setWidth_eid 29
  rw [BitVec.setWidth_eq, IdRegs.setWidth_sid] at heid
  rw [heid, IdRegs.setWidth_sid]
  rfl

theorem toNat_frameOf_id_of_std {t : Buffer} (h : bit t.id.sidl exideBit = false) :
    (frameOf t).id.toNat = t.id.sid.toNat := by
  rw [frameOf_id, h, if_neg Bool.false_ne_true, BitVec.toNat_setWidth_of_le (by decide)]

theorem clampLen_dlc (dlc : Byte) : clampLen (dlc.extractLsb' 0 4) = min (dlc.toNat % 16) 8 := by
  rw [clampLen, BitVec.extractLsb'_toNat, Nat.shiftRight_zero]

theorem toNat_frameOf_len (t : Buffer) : (frameOf t).len.toNat = min (t.dlc.toNat % 16) 8 := by
  have hlen : (frameOf t).len = BitVec.ofNat 4 (clampLen (t.dlc.extractLsb' 0 4)) := rfl
  rw [hlen, clampLen_dlc, BitVec.toNat_ofNat, Nat.mod_eq_of_lt (by omega)]

theorem frameOf_data (t : Buffer) (j : Fin 8) :
    (frameOf t).data[j] = if j.val < min (t.dlc.toNat % 16) 8 then t.data[j] else 0x00 := by
  simp [frameOf, clampLen_dlc]

/-! ### What `dispatch` stores -/

section
variable (f : Frame) (b : Fin Config.nRx) (k : Fin Config.nFilter) (old : Buffer)

theorem storedBuffer_ctrl : (storedBuffer f b k old).ctrl = storedCtrl f b k old.ctrl := rfl
theorem storedBuffer_id : (storedBuffer f b k old).id = storedId f := rfl
theorem storedBuffer_dlc : (storedBuffer f b k old).dlc = storedDlc f := rfl
theorem storedBuffer_data : (storedBuffer f b k old).data = storedData f old.data := rfl

end

/-- The sidl byte `dispatch` stores: identifier bits at its ends, and between them bit `i`, IDE or SRR (R263). -/
def sidlByte (hi : BitVec 3) (i : Nat) (b : Bool) (lo : BitVec 2) : Byte :=
  (hi.setWidth 8 <<< 5) ||| oneBit i b ||| lo.setWidth 8

theorem sidlByte_fields : ∀ i ∈ [exideBit, srrBit], ∀ (hi : BitVec 3) (b : Bool) (lo : BitVec 2),
    (sidlByte hi i b lo).extractLsb' 5 3 = hi ∧ (sidlByte hi i b lo).extractLsb' 0 2 = lo ∧
      bit (sidlByte hi i b lo) exideBit = (decide (i = exideBit) && b) ∧
      bit (sidlByte hi i b lo) srrBit = (decide (i = srrBit) && b) := by
  decide

/-- The 29-bit identifier of an extended frame stands in the four bytes, marked by IDE. -/
theorem storedId_of_ext {f : Frame} (h : f.ext = true) :
    (storedId f).eid = f.id ∧ bit (storedId f).sidl exideBit = true := by
  have hjoin : ∀ i m n, f.id.extractLsb' (i + n) m ++ f.id.extractLsb' i n = f.id.extractLsb' i (m + n) :=
    fun _ _ _ => BitVec.extractLsb'_append_extractLsb'_eq_extractLsb' rfl
  have hstored : storedId f =
      { sidh := f.id.extractLsb' 21 8
        sidl := sidlByte (f.id.extractLsb' 18 3) exideBit true (f.id.extractLsb' 16 2)
        eid8 := f.id.extractLsb' 8 8
        eid0 := f.id.extractLsb' 0 8 } := if_pos h
  obtain ⟨hhi, hlo, hide, -⟩ :=
    sidlByte_fields exideBit (by decide) (f.id.extractLsb' 18 3) true (f.id.extractLsb' 16 2)
  rw [hstored]
  refine ⟨?_, hide⟩
  have h18 := hjoin 18 8 3
  have h16 := hjoin 16 11 2
  have h8 := hjoin 8 13 8
  have h0 := hjoin 0 21 8
  rw [IdRegs.eid, IdRegs.sid, hhi, hlo, h18, h16, h8, h0]
  exact BitVec.extractLsb'_eq_self

/-- The 11-bit identifier of a standard frame stands in the first two bytes, with SRR telling a remote frame. -/
theorem storedId_of_std {f : Frame} (h : f.ext = false) :
    (storedId f).sid = stdId f ∧ bit (storedId f).sidl exideBit = false ∧ bit (storedId f).sidl srrBit = f.rtr ∧
      (storedId f).eid8 = 0x00 ∧ (storedId f).eid0 = 0x00 := by
  have hstored : storedId f =
      { sidh := (stdId f).extractLsb' 3 8
        sidl := sidlByte ((stdId f).extractLsb' 0 3) srrBit f.rtr 0
        eid8 := 0x00
        eid0 := 0x00 } := by
    rw [storedId, h, if_neg Bool.false_ne_true, sidlByte]
    simp
  obtain ⟨hhi, -, hide, hsrr⟩ := sidlByte_fields srrBit (by decide) ((stdId f).extractLsb' 0 3) f.rtr 0
  rw [hstored]
  refine ⟨?_, hide, hsrr, rfl, rfl⟩
  rw [IdRegs.sid, hhi]
  exact BitVec.extractLsb'_append_extractLsb'

theorem storedDlc_fields (f : Frame) :
    (storedDlc f).toNat % 16 = min f.len.toNat 8 ∧ bit (storedDlc f) rtrBit = (f.ext && f.rtr) := by
  have h : ∀ (n : Fin 9) (b : Bool), (BitVec.ofNat 8 n.val ||| oneBit rtrBit b).toNat % 16 = n.val ∧
      bit (BitVec.ofNat 8 n.val ||| oneBit rtrBit b) rtrBit = b := by decide
  exact h ⟨min f.len.toNat 8, by omega⟩ (f.ext && f.rtr)

theorem storedData_getElem (f : Frame) (old : Vector Byte 8) (j : Fin 8) :
    (storedData f old)[j] = if j.val < min f.len.toNat 8 then f.data[j] else old[j] := by
  simp [storedData, clampLen]

theorem Frame.eq_of_fields {f g : Frame} (hid : f.id = g.id) (hext : f.ext = g.ext) (hrtr : f.rtr = g.rtr)
    (herr : f.err = g.err) (hflags : f.flags = g.flags) (hlen : f.len = g.len) (hdata : f.data = g.data) : f = g := by
  cases f
  cases g
  simp_all only

/-- An extended clean frame whose payload is 0 beyond its length comes back from the buffer it is stored in. -/
theorem frameOf_storedBuffer {f : Frame} (hext : f.ext = true) (hlen : f.len.toNat ≤ 8)
    (hpad : ∀ j : Fin 8, f.len.toNat ≤ j.val → f.data[j] = 0x00) (hclean : CleanFrame f)
    (b : Fin Config.nRx) (k : Fin Config.nFilter) (old : Buffer) : frameOf (storedBuffer f b k old) = f := by
  obtain ⟨heid, hide⟩ := storedId_of_ext hext
  obtain ⟨hdlc, hrtr⟩ := storedDlc_fields f
  have hlen8 : min ((storedBuffer f b k old).dlc.toNat % 16) 8 = f.len.toNat := by
    rw [storedBuffer_dlc, hdlc]
    omega
  refine Frame.eq_of_fields ?_ (hide.trans hext.symm) (hrtr.trans (by simp [hext])) hclean.1.symm hclean.2.symm ?_ ?_
  · rw [frameOf_id, storedBuffer_id, if_pos hide, heid]
  · rw [← BitVec.toNat_inj, toNat_frameOf_len, hlen8]
  · refine Vector.ext fun j hj => (frameOf_data (storedBuffer f b k old) ⟨j, hj⟩).trans ?_
    rw [hlen8, storedBuffer_data, storedData_getElem, Nat.min_eq_left hlen]
    by_cases hjlen : j < f.len.toNat
    · rw [if_pos hjlen, if_pos hjlen]
      rfl
    · rw [if_neg hjlen]
      exact (hpad ⟨j, hj⟩ (Nat.le_of_not_lt hjlen)).symm

/-! ### The control byte `dispatch` stores -/

theorem setFilhitField_and_seven (old : Byte) (k : BitVec 3) : setFilhitField old k &&& 0x07 = k.setWidth 8 := by
  rw [setFilhitField, or_setWidth_and_seven]
  intro i hi
  have hlow : ∀ i, i < 3 → bit 0xF8#8 i = false := by decide
  rw [bit_and, hlow i hi, Bool.and_false]

/-- In buffer 1 the filter index stands in FILHIT; the bits above RXRTR are kept (R266). -/
theorem storedCtrl_of_buffer1 (f : Frame) (k : Fin Config.nFilter) (old : Byte) :
    (filhitField (storedCtrl f 1 k old)).toNat = k.val ∧ storedCtrl f 1 k old &&& 0xF0 = old &&& 0xF0 := by
  have hctrl : storedCtrl f 1 k old = setBit (setFilhitField old (BitVec.ofNat 3 k.val)) rxrtrBit f.rtr := rfl
  have hkept : ∀ j, j < 8 → bit 0xF0 j = true → j ≠ rxrtrBit ∧ 3 ≤ j := by decide
  constructor
  · have hk : k.val < 8 := k.isLt.trans (by decide)
    rw [toNat_filhitField, hctrl, setBit_and _ _ _ _ (by decide) (by decide), setFilhitField_and_seven,
      BitVec.toNat_setWidth_of_le (by decide), BitVec.toNat_ofNat, Nat.mod_eq_of_lt hk]
  · refine and_eq_and_of_bits fun j hj hb => ?_
    obtain ⟨hrxrtr, hhigh⟩ := hkept j hj hb
    exact bit_storedCtrl f 1 k old j hj hrxrtr (fun h => absurd h (by decide)) fun _ => hhigh

/-- In buffer 0 FILHIT0 tells filter 0 from filter 1; the other bits but RXRTR are kept (R266). -/
theorem storedCtrl_of_buffer0 (f : Frame) (k : Fin Config.nFilter) (old : Byte) :
    bit (storedCtrl f 0 k old) filhit0Bit = decide (0 < k.val) ∧ storedCtrl f 0 k old &&& 0xF6 = old &&& 0xF6 := by
  have hctrl : storedCtrl f 0 k old = setBit (setBit old filhit0Bit (decide (0 < k.val))) rxrtrBit f.rtr := rfl
  have hkept : ∀ j, j < 8 → bit 0xF6 j = true → j ≠ rxrtrBit ∧ j ≠ filhit0Bit := by decide
  constructor
  · rw [hctrl, bit_setBit_ne _ _ (by decide) (by decide), bit_setBit_same _ _ _ (by decide)]
  · refine and_eq_and_of_bits fun j hj hb => ?_
    obtain ⟨hrxrtr, hfilhit⟩ := hkept j hj hb
    exact bit_storedCtrl f 0 k old j hj hrxrtr (fun _ => hfilhit) (absurd rfl)

/-- Settles O48: the stored identifier, length, payload and control byte, each read back by the lemma about it; and the
fields of `frameOf`. -/
theorem storedFrameReadsBack : Obligations.StoredFrameReadsBack := by
  refine ⟨fun f b k old => ⟨_, rfl, ?_⟩, fun t => ?_⟩
  · obtain ⟨hdlc, hrtr⟩ := storedDlc_fields f
    have hrxrtr : bit (storedCtrl f b k old.ctrl) rxrtrBit = f.rtr := bit_setBit_same _ _ _ (by decide)
    rw [storedBuffer_id, storedBuffer_dlc, storedBuffer_data, storedBuffer_ctrl]
    refine ⟨?_, fun h => ?_, fun h => ?_, fun h hlen hpad hclean => frameOf_storedBuffer h hlen hpad hclean b k old, ?_,
      hrtr, storedData_getElem f old.data, hrxrtr, ?_, ?_⟩
    · cases h : f.ext with
      | true => exact (storedId_of_ext h).2
      | false => exact (storedId_of_std h).2.1
    · rw [pack_eq, (storedId_of_ext h).1]
    · obtain ⟨hsid, hide, hsrr, heid⟩ := storedId_of_std h
      rw [toNat_frameOf_id_of_std (t := storedBuffer f b k old) hide, storedBuffer_id, hsid]
      exact ⟨toNat_stdId f, hsrr, heid⟩
    · rw [BitVec.toNat_and]
      exact (Nat.and_two_pow_sub_one_eq_mod _ 4).trans hdlc
    · rintro rfl
      exact storedCtrl_of_buffer0 f k old.ctrl
    · rintro rfl
      exact storedCtrl_of_buffer1 f k old.ctrl
  · refine ⟨rfl, fun h => ?_, fun h => ?_, toNat_frameOf_len t, rfl, frameOf_data t, rfl, rfl⟩
    · rw [toNat_frameOf_id_of_std h, IdRegs.toNat_sid]
    · have hide : bit t.id.sidl exideBit = true := h
      rw [frameOf_id, if_pos hide, IdRegs.toNat_eid, IdRegs.toNat_sid]

end Sys2Proof.Machine
end

section
/-! SUPPORT. The event `BusRx` (R251 to R253, R262 to R271): which frames are refused, stored, dropped or lost, and that
only the receive state and a wake-up follow from any of them. -/

namespace Sys2Proof.Machine

open Sys2Proof

/-! ### Raising flags -/

/-- Raising flags neither reads nor changes the queue and the outputs. -/
theorem raised_beginEvent (fl : Byte) (s : State) (rest : List Event) :
    raised fl (s.beginEvent rest) = (raised fl s).beginEvent rest := by
  unfold raised State.beginEvent
  dsimp only
  split <;> rfl

/-- Raising flags wakes the chip exactly when WAKIF newly becomes effective in SLEEP mode (R344). -/
theorem raised_mode (fl : Byte) (s : State) :
    (raised fl s).mode = if wakes ((s.reg.canintf ||| fl) &&& s.reg.caninte) s then modeListen else s.mode := by
  unfold raised
  dsimp only
  split
  · next h =>
    have hwake : wakes s.irqPrev s = false := by simp [wakes]
    rw [h, hwake, if_neg Bool.false_ne_true]
    rfl
  · split <;> simp [State.mode]

/-- A canstat differs from another in mode and interrupt code only, when the constant bits agree (R35). -/
theorem canstat_eq_setFields {v w : Byte} (h0 : bit w 0 = bit v 0) (h4 : bit w 4 = bit v 4) :
    w = setModeField (setIcodField v (icodField w)) (modeField w) := by
  have hkept : ∀ j, j = 0 ∨ j = 4 → bit (setModeField (setIcodField v (icodField w)) (modeField w)) j = bit v j :=
    fun j hj => by rw [bit_setModeField _ _ _ (by omega), bit_setIcodField _ _ _ (by omega)]
  refine canstat_ext (by simp) (by simp) ?_ ?_
  · rw [hkept 0 (.inl rfl), h0]
  · rw [hkept 4 (.inr rfl), h4]

/-- Raising flags changes nothing but what a reception may change (R271); `raised_out` is about the outputs. -/
theorem raised_frame (fl : Byte) (s : State) :
    raised fl s = { s with
      reg := { s.reg with
        rx := (raised fl s).reg.rx
        canintf := (raised fl s).reg.canintf
        eflg := (raised fl s).reg.eflg
        canstat := setModeField (setIcodField s.reg.canstat (icodField (raised fl s).reg.canstat)) (raised fl s).mode }
      irqPrev := (raised fl s).irqPrev
      pin := (raised fl s).pin
      out := (raised fl s).out } := by
  have hbit : ∀ j, j = 0 ∨ j = 4 → bit (raised fl s).reg.canstat j = bit s.reg.canstat j := fun j hj => by
    unfold raised
    dsimp only
    split
    · rfl
    · rw [bit_setIcodField _ _ _ (by omega)]
      split
      · exact bit_setModeField _ _ _ (by omega)
      · rfl
  rw [State.mode, ← canstat_eq_setFields (hbit 0 (.inl rfl)) (hbit 4 (.inr rfl))]
  unfold raised
  dsimp only
  split <;> rfl

/-! ### The receive path, case by case -/

section
variable {irq : Byte → State → State} {f : Frame} {s : State}

/-- A frame buffer 0 does not accept is offered to buffer 1; an invalid RXM leaves no trace (R253, R334). -/
theorem receiveWith_of_not_matched (h : ∀ j, checkFilters f 0 s.reg ≠ .matched j) :
    receiveWith irq f s = offerTo1With irq f s := by
  unfold receiveWith
  cases hc : checkFilters f 0 s.reg with
  | matched j => exact absurd hc (h j)
  | invalidConfig => rfl
  | noMatch => rfl

theorem receiveWith_of_matched {k : Fin Config.nFilter} (h : checkFilters f 0 s.reg = .matched k) :
    receiveWith irq f s = acceptFor0With irq f k s := by
  rw [receiveWith, h]

theorem offerTo1With_of_matched {k : Fin Config.nFilter} (h : checkFilters f 1 s.reg = .matched k) :
    offerTo1With irq f s =
      if s.reg.rxFull 1 = false then dispatchWith irq f 1 k s else raiseConditionWith irq (.rxOverflow 1) s := by
  rw [offerTo1With, h]

/-- A frame neither buffer accepts is dropped (R253). -/
theorem receiveWith_of_unmatched (h : ∀ b k, checkFilters f b s.reg ≠ .matched k) : receiveWith irq f s = s := by
  rw [receiveWith_of_not_matched (h 0)]
  unfold offerTo1With
  cases hc : checkFilters f 1 s.reg with
  | matched k => exact absurd hc (h 1 k)
  | invalidConfig => rfl
  | noMatch => rfl

/-- The three ways to be stored (R253, R267). -/
theorem receiveWith_of_storedIn {b : Fin Config.nRx} {k : Fin Config.nFilter} (h : StoredIn f s.reg b k) :
    receiveWith irq f s = dispatchWith irq f b k s := by
  rcases h with ⟨rfl, hmatch, hfree⟩ | ⟨rfl, hmatch, hfull, hbukt, hfree⟩ | ⟨rfl, hnone, hmatch, hfree⟩
  · rw [receiveWith_of_matched hmatch, acceptFor0With, if_pos hfree]
  · rw [receiveWith_of_matched hmatch, acceptFor0With, if_neg (by simp [hfull]), if_pos hbukt, if_pos hfree]
  · rw [receiveWith_of_not_matched hnone, offerTo1With_of_matched hmatch, if_pos hfree]

/-- The three ways to overflow (R268). -/
theorem receiveWith_of_overflowsIn {n : Fin Config.nRx} (h : OverflowsIn f s.reg n) :
    receiveWith irq f s = raiseConditionWith irq (.rxOverflow n) s := by
  rcases h with ⟨rfl, ⟨k, hmatch⟩, hfull, hroll⟩ | ⟨rfl, hnone, ⟨k, hmatch⟩, hfull⟩
  · rw [receiveWith_of_matched hmatch, acceptFor0With, if_neg (by simp [hfull])]
    rcases hroll with hbukt | hfull1
    · exact if_neg (by simp [hbukt])
    · rw [if_neg (c := s.reg.rxFull 1 = false) (by simp [hfull1]), ite_self]
  · rw [receiveWith_of_not_matched hnone, offerTo1With_of_matched hmatch, if_neg (by simp [hfull])]

end

/-! ### The event -/

section
variable {s : State} {f : Frame} {rest : List Event}

theorem step_busRx (hp : s.pending = .busRx f :: rest) : step s = .next (busRx f (s.beginEvent rest)) :=
  step_of_pending_cons hp

theorem marked_of_not_clean (h : ¬CleanFrame f) : f.err = true ∨ f.flags ≠ 0 := by
  by_contra hnot
  exact h ⟨Bool.eq_false_iff.2 fun e => hnot (.inl e), not_ne_iff.1 fun e => hnot (.inr e)⟩

theorem canAccept_eq_true_iff : canAccept s = true ↔ ¬(s.mode = modeConfig ∨ s.mode = modeLoopback) :=
  decide_eq_true_iff.trans not_or.symm

/-- A frame that is marked, or comes in CONFIG or LOOPBACK mode, is refused (R251, R253, R269). -/
theorem busRx_of_refused (h : ¬CleanFrame f ∨ s.mode = modeConfig ∨ s.mode = modeLoopback) :
    busRx f s = s.answer false := by
  unfold busRx
  split
  · next haccept =>
    have hmarked := marked_of_not_clean (h.resolve_right (canAccept_eq_true_iff.1 haccept))
    rw [onFrame, onFrameWith, if_pos hmarked]
  · rfl

/-- A clean frame in the modes that take frames is answered true: asleep it raises WAKIF, else it goes to the filters
(R251 to R253). -/
theorem busRx_of_clean (hf : CleanFrame f) (hm : ¬(s.mode = modeConfig ∨ s.mode = modeLoopback)) :
    busRx f s = State.answer (if s.mode = modeSleep then irqRaise flagWak s else receiveWith irqRaise f s) true := by
  have hclean : ¬(f.err = true ∨ f.flags ≠ 0) := by simp [hf.1, hf.2]
  unfold busRx onFrame onFrameWith
  rw [if_pos (canAccept_eq_true_iff.2 hm), if_neg hclean]
  split <;> rfl

theorem not_sleep_of_receiving (hm : ReceivingMode s) : s.mode ≠ modeSleep := by
  rcases hm with hm | hm <;> rw [hm] <;> decide

/-- In NORMAL and LISTEN mode a clean frame goes to the filters (R253, R316). -/
theorem busRx_of_receiving (hf : CleanFrame f) (hm : ReceivingMode s) :
    busRx f s = (receiveWith irqRaise f s).answer true := by
  have htakes : ¬(s.mode = modeConfig ∨ s.mode = modeLoopback) := by
    rcases hm with hm | hm <;> rw [hm] <;> decide
  rw [busRx_of_clean hf htakes, if_neg (not_sleep_of_receiving hm)]

/-- Awake, `irq_raise` is `raised`. -/
theorem irqRaise_eq_raised_of_awake (fl : Byte) (hm : s.mode ≠ modeSleep) : irqRaise fl s = raised fl s :=
  (irqRaise_of_not_sleep fl s hm).trans (irqRaiseAwake_eq fl s hm)

/-- A frame whose one trace is a changed register file `r` and a raised flag. -/
theorem step_busRx_of_raised {fl : Byte} {r : RegFile} (hp : s.pending = .busRx f :: rest)
    (h : busRx f (s.beginEvent rest) = (raised fl { s.beginEvent rest with reg := r }).answer true) :
    step s = .next { raised fl { s with reg := r } with
      pending := rest, out := { Output.empty with accepted := some true } } := by
  have hraised : raised fl { s.beginEvent rest with reg := r } = (raised fl { s with reg := r }).beginEvent rest :=
    raised_beginEvent fl { s with reg := r } rest
  rw [step_busRx hp, h, hraised]
  rfl

end

/-! ### The statements about single frames -/

/-- Settles O44: a frame that is stored goes through `dispatch`, which raises the RX-full flag of its buffer. -/
theorem acceptedFrameIsStored : Obligations.AcceptedFrameIsStored := by
  intro s f rest b k hp hf hm hstored
  refine ⟨raised (flagRx b) (s.setRx b (storedBuffer f b k s.reg.rx[b])), rfl, ?_, step_busRx_of_raised hp ?_⟩
  · have hflag : ∀ n : Fin Config.nRx, bit (flagRx n) (rxifBit n) = true := by decide
    rw [RegFile.rxFull, raised_reg_canintf, bit_or, hflag, Bool.or_true]
  · rw [busRx_of_receiving (s := s.beginEvent rest) hf hm, receiveWith_of_storedIn (s := s.beginEvent rest) hstored]
    exact congrArg (State.answer · true)
      (irqRaise_eq_raised_of_awake _ (not_sleep_of_receiving (s := s.beginEvent rest) hm))

/-- Settles O45: a frame that overflows raises the condition RxOverflow, which sets its bit in eflg and raises ERRIF. -/
theorem overflowDropsFrame : Obligations.OverflowDropsFrame := by
  intro s f rest n hp hf hm hover
  refine step_busRx_of_raised hp ?_
  rw [busRx_of_receiving (s := s.beginEvent rest) hf hm, receiveWith_of_overflowsIn (s := s.beginEvent rest) hover]
  exact congrArg (State.answer · true)
    (irqRaise_eq_raised_of_awake _ (not_sleep_of_receiving (s := s.beginEvent rest) hm))

/-- Settles O46: `busRx_of_refused` and `receiveWith_of_unmatched`. -/
theorem refusedAndUnmatchedFrames : Obligations.RefusedAndUnmatchedFrames := by
  intro s f rest hp
  refine ⟨fun h => ?_, fun hf hm h => ?_⟩ <;> rw [step_busRx hp]
  · rw [busRx_of_refused (s := s.beginEvent rest) h]
    rfl
  · rw [busRx_of_receiving (s := s.beginEvent rest) hf hm, receiveWith_of_unmatched (s := s.beginEvent rest) h]
    rfl

/-- Settles O47: asleep, raising WAKIF is all a frame does, and `raised_mode` says when that wakes the chip. -/
theorem sleepingChipFrame : Obligations.SleepingChipFrame := by
  intro s f rest hp hf hm hl hq
  refine ⟨raised flagWak s, rfl, ?_, step_busRx_of_raised hp ?_⟩
  · have hflag : bit flagWak 6 = true := rfl
    have hwakif : bit ((s.reg.canintf ||| flagWak) &&& s.reg.caninte) 6 = bit s.reg.caninte 6 := by
      rw [bit_and, bit_or, hflag, Bool.or_true, Bool.true_and]
    rw [raised_mode, wakes, hm, hwakif, decide_eq_true rfl, Bool.true_and]
  · have hsleep : (s.beginEvent rest).mode = modeSleep := hm
    have htakes : ¬((s.beginEvent rest).mode = modeConfig ∨ (s.beginEvent rest).mode = modeLoopback) := by
      rw [hsleep]
      decide
    rw [busRx_of_clean hf htakes, if_pos hsleep, irqRaise_eq_raised flagWak (s.beginEvent rest) hl hq]
    rfl

/-! ### What any frame can change -/

/-- A frame leaves the chip as it was, or RX buffers and eflg change and then flags are raised (R252, R253, R271). -/
theorem busRx_cases (f : Frame) {s : State} (hl : SleepRequestsListen s) (hq : RequestsConsistent s) :
    ∃ a, busRx f s = s.answer a ∨ ∃ fl rx eflg,
      busRx f s = (raised fl { s with reg := { s.reg with rx := rx, eflg := eflg } }).answer a := by
  have hraise : ∀ fl rx eflg, irqRaise fl { s with reg := { s.reg with rx := rx, eflg := eflg } } =
      raised fl { s with reg := { s.reg with rx := rx, eflg := eflg } } := fun fl rx eflg =>
    irqRaise_eq_raised fl { s with reg := { s.reg with rx := rx, eflg := eflg } } hl hq
  by_cases haccept : canAccept s = true
  · have hbus : busRx f s = (onFrame f s).2.answer (onFrame f s).1 := if_pos haccept
    refine ⟨(onFrame f s).1, ?_⟩
    rw [hbus]
    rcases onFrameWith_cases irqRaise f s with h | h | ⟨-, b, k, h⟩ | ⟨-, n, h⟩
    · exact .inl (congrArg (State.answer · _) h)
    all_goals exact .inr ⟨_, _, _, congrArg (State.answer · _) (h.trans (hraise _ _ _))⟩
  · exact ⟨false, .inl (if_neg haccept)⟩

/-- Settles O49: the frame of `raised`, after a change of RX buffers and eflg alone. -/
theorem busRxTouchesOnlyReceiveState : Obligations.BusRxTouchesOnlyReceiveState := by
  intro s t f rest hl hq hp hstep
  rw [step_busRx hp] at hstep
  obtain rfl := Host.Outcome.next.inj hstep
  obtain ⟨a, h | ⟨fl, rx, eflg, h⟩⟩ := busRx_cases f (s := s.beginEvent rest) hl hq <;> rw [h]
  · have hcanstat : s.reg.canstat = setModeField (setIcodField s.reg.canstat (icodField s.reg.canstat)) s.mode :=
      canstat_eq_setFields rfl rfl
    exact ⟨rfl, .inl rfl, congrArg (fun c => State.answer { s.beginEvent rest with
      reg := { s.reg with canstat := c } } a) hcanstat⟩
  · have hout := raised_out fl { s.beginEvent rest with reg := { s.reg with rx := rx, eflg := eflg } }
    have hmode := raised_mode_cases fl { s.beginEvent rest with reg := { s.reg with rx := rx, eflg := eflg } }
    have hframe := raised_frame fl { s.beginEvent rest with reg := { s.reg with rx := rx, eflg := eflg } }
    exact ⟨congrArg Output.busSent hout, hmode, congrArg (State.answer · a) hframe⟩

end Sys2Proof.Machine
end

section
/-! SUPPORT. The TX arbiter behind RTS (45_can_transmit.md): what ABAT stops (R290), the order in which buffers are served
(R292), and the requests served in LOOPBACK mode (R297, R299). -/

namespace Sys2Proof.Machine

open Sys2Proof

/-- Settles O22: the request is a no-op, and the command byte is answered as any other. -/
theorem rtsWhileAborting : Obligations.RtsWhileAborting := by
  intro nnn s habat
  rw [exec_rts, requestToSend_of_abat nnn s habat]
  rfl

/-! ### The order of service -/

/-- A buffer comes before another: higher TXP, or the same TXP and lower index (R292). -/
abbrev ServedBefore (txp : Fin Config.nTx → BitVec 2) (a b : Fin Config.nTx) : Prop :=
  (txp b).toNat < (txp a).toNat ∨ (txp a = txp b ∧ a < b)

/-- The priorities are gone through downwards, and for each priority the buffers upwards. -/
theorem sendOrder_pairwise (txp : Fin Config.nTx → BitVec 2) (bitmap : BitVec 3) :
    (sendOrder txp bitmap).Pairwise (ServedBefore txp) := by
  have hindex : ([0, 1, 2] : List (Fin Config.nTx)).Pairwise (· < ·) := by decide
  have hpriority : ([3, 2, 1, 0] : List (BitVec 2)).Pairwise fun p q => q.toNat < p.toNat := by decide
  have hturn : ∀ {p : BitVec 2} {l : List (Fin Config.nTx)} {n : Fin Config.nTx},
      n ∈ l.filter (fun n => bitmap.getLsbD n.val && txp n == p) → txp n = p := fun hn => by
    simp only [List.mem_filter, Bool.and_eq_true, beq_iff_eq] at hn
    exact hn.2.2
  refine List.pairwise_flatMap.2 ⟨fun p _ => ?_, hpriority.imp fun hlt a ha b hb => .inl ?_⟩
  · exact (hindex.filter _).imp_of_mem fun ha hb hlt => .inr ⟨(hturn ha).trans (hturn hb).symm, hlt⟩
  · rwa [hturn ha, hturn hb]

/-- Settles O26: `mem_sendOrder` and `sendOrder_pairwise`; without ABAT the arbiter is the fold over that order. -/
theorem sendOrderByPriority : Obligations.SendOrderByPriority :=
  ⟨fun txp bitmap => ⟨mem_sendOrder txp bitmap, sendOrder_pairwise txp bitmap⟩,
    fun _ _ habat => if_neg (Bool.eq_false_iff.1 habat)⟩

/-! ### What receptions leave unchanged -/

@[simp] theorem withReceiveState_mode (s v : State) : (s.withReceiveState v).mode = s.mode := by
  simp [State.mode, State.withReceiveState]

/-- Changing receive state only, and then again receive state only. -/
theorem eq_withReceiveState_trans {s u v : State} (hu : u = s.withReceiveState u) (hv : v = u.withReceiveState v) :
    v = s.withReceiveState v :=
  calc v
    _ = u.withReceiveState v := hv
    _ = (s.withReceiveState u).withReceiveState v := by rw [← hu]
    _ = s.withReceiveState v := by simp [State.withReceiveState, setIcodField_setIcodField]

/-- Awake, raising flags changes receive state only. -/
theorem raised_eq_withReceiveState (fl : Byte) {s : State} (hm : s.mode ≠ modeSleep) :
    raised fl s = s.withReceiveState (raised fl s) := by
  by_cases h : (s.reg.canintf ||| fl) &&& s.reg.caninte = s.irqPrev
  · rw [raised_of_eq h]
    simp [State.withReceiveState, State.setCanintf, setIcodField_self]
  · rw [raised_of_ne hm h]
    simp [State.withReceiveState, State.withInterrupts]

theorem receivedAsInListen_eq_withReceiveState (f : Frame) (s : State) :
    receivedAsInListen f s = s.withReceiveState (receivedAsInListen f s) := by
  simp [receivedAsInListen, State.withReceiveState]

/-- A transmission in LOOPBACK mode changes receive state only, but for the TX buffer. -/
theorem loopedBack_eq_withReceiveState (frames : Fin Config.nTx → Frame) {s : State} (hm : s.mode ≠ modeSleep)
    (n : Fin Config.nTx) : loopedBack frames s n = s.withReceiveState (loopedBack frames s n) := by
  have hawake : (receivedAsInListen (frames n) s).mode ≠ modeSleep := by rwa [receivedAsInListen, withReceiveState_mode]
  exact eq_withReceiveState_trans (receivedAsInListen_eq_withReceiveState _ s) (raised_eq_withReceiveState _ hawake)

theorem foldl_loopedBack_eq_withReceiveState (frames : Fin Config.nTx → Frame) {s : State} (hm : s.mode ≠ modeSleep)
    (l : List (Fin Config.nTx)) :
    l.foldl (loopedBack frames) s = s.withReceiveState (l.foldl (loopedBack frames) s) := by
  induction l using List.reverseRecOn with
  | nil => simp [State.withReceiveState, setIcodField_self]
  | append_singleton l n ih =>
    have hawake : (l.foldl (loopedBack frames) s).mode ≠ modeSleep := by rwa [ih, withReceiveState_mode]
    rw [List.foldl_concat]
    exact eq_withReceiveState_trans ih (loopedBack_eq_withReceiveState frames hawake n)

theorem foldl_loopedBack_mode (frames : Fin Config.nTx → Frame) {s : State} (hm : s.mode ≠ modeSleep)
    (l : List (Fin Config.nTx)) : (l.foldl (loopedBack frames) s).mode = s.mode := by
  rw [foldl_loopedBack_eq_withReceiveState frames hm, withReceiveState_mode]

/-! ### Flags that stay set -/

theorem bit_irqRaiseAwake_canintf (fl : Byte) {s : State} {i : Nat} (h : bit s.reg.canintf i = true)
    (hm : s.mode ≠ modeSleep) : bit (irqRaiseAwake fl s).reg.canintf i = true := by
  rw [irqRaiseAwake_eq fl s hm, raised_reg_canintf, bit_or, h, Bool.true_or]

/-- A reception clears no flag. -/
theorem bit_receivedAsInListen_canintf {f : Frame} (hf : CleanFrame f) {s : State} (hm : s.mode = modeLoopback) {i : Nat}
    (h : bit s.reg.canintf i = true) : bit (receivedAsInListen f s).reg.canintf i = true := by
  have hawake : s.mode ≠ modeSleep := by rw [hm]; decide
  rw [← onFrame_loopback f s hf hm]
  rcases onFrameWith_cases irqRaiseAwake f s with e | e | ⟨-, b, k, e⟩ | ⟨-, n, e⟩ <;> rw [e]
  · exact h
  · exact bit_irqRaiseAwake_canintf flagWak h hawake
  · exact bit_irqRaiseAwake_canintf (flagRx b) (s := s.setRx b (storedBuffer f b k s.reg.rx[b])) h hawake
  · exact bit_irqRaiseAwake_canintf flagErr (s := s.setEflg (setBit s.reg.eflg (rxovrBit n) true)) h hawake

/-- After all transmissions TXnIF is set for every buffer that had its turn, whatever was received after it (R299). -/
theorem bit_foldl_loopedBack_canintf {frames : Fin Config.nTx → Frame} (hframes : ∀ n, CleanFrame (frames n)) {s : State}
    (hm : s.mode = modeLoopback) (l : List (Fin Config.nTx)) {n : Fin Config.nTx} (hn : n ∈ l) :
    bit (l.foldl (loopedBack frames) s).reg.canintf (2 + n.val) = true := by
  have hawake : s.mode ≠ modeSleep := by rw [hm]; decide
  induction l using List.reverseRecOn with
  | nil => exact absurd hn List.not_mem_nil
  | append_singleton l m ih =>
    rw [List.foldl_concat, loopedBack]
    rcases List.mem_append.1 hn with hl | hlast
    · have hmode := (foldl_loopedBack_mode frames hawake l).trans hm
      rw [raised_reg_canintf, bit_or, bit_receivedAsInListen_canintf (hframes m) hmode (ih hl), Bool.true_or]
    · rw [List.mem_singleton.1 hlast]
      exact bit_raised_flagTx m _

/-! ### Requests served in LOOPBACK mode -/

/-- One request in LOOPBACK mode is served at once (R295, R297, R299). -/
theorem requestOne_of_loopback {s : State} (hm : s.mode = modeLoopback) (n : Fin Config.nTx) :
    requestOne s n = (loopedBack (fun m => frameOf s.reg.tx[m]) s n).withTransmitState (s.setRequest false n) := by
  have hserve : doSend n (s.setRequest true n) = _ := doSend_setTxCtrl_of_loopback n _ hm
  have hctrl : setBit (setBit (setBit s.reg.tx[n].ctrl abtfBit false) txreqBit true) txreqBit false =
      setBit (setBit s.reg.tx[n].ctrl abtfBit false) txreqBit false := setBit_setBit _ _ _ _ (by decide)
  rw [requestOne, setTxCtrlBit_setTxCtrlBit, trySend, if_pos (txreq_setRequest s n), hserve, hctrl]
  rfl

/-- What is looped back does not depend on TX buffers and outputs, the frames being given. -/
theorem loopedBack_withTransmitState {frames : Fin Config.nTx → Frame} {n : Fin Config.nTx} (hf : CleanFrame (frames n))
    {s : State} (hm : s.mode = modeLoopback) (v : State) :
    loopedBack frames (s.withTransmitState v) n = (loopedBack frames s n).withTransmitState v := by
  rw [loopedBack, receivedAsInListen_withTransmitState hf hm, raised_withTransmitState, loopedBack]

/-- In LOOPBACK mode the arbiter receives one after another the frames the buffers held at the start, and the requests
are served. -/
theorem foldl_requestOne_of_loopback {s : State} (hm : s.mode = modeLoopback) (l : List (Fin Config.nTx)) :
    l.foldl requestOne s = (l.foldl (loopedBack fun n => frameOf s.reg.tx[n]) s).withTransmitState
      (l.foldl (State.setRequest false) s) := by
  have hawake : s.mode ≠ modeSleep := by rw [hm]; decide
  induction l using List.reverseRecOn with
  | nil => rfl
  | append_singleton l n ih =>
    rw [List.foldl_concat, List.foldl_concat, List.foldl_concat, ih]
    generalize hu : l.foldl (loopedBack fun n => frameOf s.reg.tx[n]) s = u
    generalize hv : l.foldl (State.setRequest false) s = v
    have hmode : u.mode = modeLoopback := by rw [← hu, foldl_loopedBack_mode _ hawake, hm]
    have hframe : ∀ m : Fin Config.nTx, frameOf (u.withTransmitState v).reg.tx[m] = frameOf s.reg.tx[m] := fun m => by
      have htx : frameOf (u.withTransmitState v).reg.tx[m] = frameOf v.reg.tx[m] := rfl
      rw [htx, ← hv, foldl_setRequest_tx]
      split <;> rfl
    calc requestOne (u.withTransmitState v) n
      _ = (loopedBack (fun m => frameOf s.reg.tx[m]) (u.withTransmitState v) n).withTransmitState
            ((u.withTransmitState v).setRequest false n) := by
        rw [requestOne_of_loopback (s := u.withTransmitState v) hmode, funext hframe]
      _ = (loopedBack (fun m => frameOf s.reg.tx[m]) u n).withTransmitState (v.setRequest false n) := by
        rw [loopedBack_withTransmitState (frames := fun m => frameOf s.reg.tx[m]) ⟨rfl, rfl⟩ hmode]
        rfl

theorem requestToSend_of_loopback (bitmap : BitVec 3) {s : State} (habat : s.abat = false) (hm : s.mode = modeLoopback) :
    requestToSend bitmap s =
      ((sendOrder (fun n => txpField s.reg.tx[n].ctrl) bitmap).foldl (loopedBack fun n => frameOf s.reg.tx[n])
        s).withTransmitState
      ((sendOrder (fun n => txpField s.reg.tx[n].ctrl) bitmap).foldl (State.setRequest false) s) := by
  rw [requestToSend, habat, if_neg (by decide), foldl_requestOne_of_loopback hm]

/-- Settles O25: the receptions of all named buffers in order, which change receive state only, and the TX buffers
served. -/
theorem rtsInLoopbackModeReceives : Obligations.RtsInLoopbackModeReceives := by
  intro nnn s habat hm
  have hawake : s.mode ≠ modeSleep := by rw [hm]; decide
  have hreceive := foldl_loopedBack_eq_withReceiveState (fun n => frameOf s.reg.tx[n]) hawake
    (sendOrder (fun n => txpField s.reg.tx[n].ctrl) nnn)
  have hserved := foldl_setRequest_eq false (sendOrder (fun n => txpField s.reg.tx[n].ctrl) nnn) s
  refine ⟨_, _, exec_rts nnn s, rfl, fun n => ?_, fun n hn => ?_, ?_, ?_⟩ <;>
    rw [requestToSend_of_loopback nnn habat hm]
  · simp only [State.reply_reg, State.goto_reg, State.withTransmitState, foldl_setRequest_tx, mem_sendOrder]
    rfl
  · exact bit_foldl_loopedBack_canintf (fun _ => ⟨rfl, rfl⟩) hm _ ((mem_sendOrder _ _ _).2 hn)
  · rw [hserved, hreceive]
    rfl
  · conv_lhs => rw [hserved, hreceive]
    rfl

end Sys2Proof.Machine
end

section
/-! SUPPORT. The mode controller behind a write to canctrl (46_mode_control.md R310 to R317, R319): the active mode and the
request it leaves, and what becomes of the TX buffers when the mode stays, changes under ABAT, or enters a mode that
queues, sends or loops back. -/

namespace Sys2Proof.Machine

open Sys2Proof

/-! ### The mode field of a byte -/

theorem setModeField_self (v : Byte) : setModeField v (modeField v) = v := by
  apply byte_ext
  intro i hi
  unfold bit setModeField modeField
  interval_cases i <;> simp

theorem setModeField_setModeField (v : Byte) (m n : BitVec 3) : setModeField (setModeField v m) n = setModeField v n := by
  apply byte_ext
  intro i hi
  unfold bit setModeField
  interval_cases i <;> simp

theorem setModeField_and_low (v : Byte) (m : BitVec 3) : setModeField v m &&& 0x1F = v &&& 0x1F := by
  have hlow : ∀ j, j < 8 → bit 0x1F j = true → j < 5 := by decide
  exact and_eq_and_of_bits fun j hj hb => bit_setModeField v m j (hlow j hj hb)

/-- The chip with the active mode made `m`. -/
def State.enter (s : State) (m : BitVec 3) : State := s.setCanstat (setModeField s.reg.canstat m)

@[simp] theorem enter_mode (s : State) (m : BitVec 3) : (s.enter m).mode = m := modeField_setModeField _ _

theorem enter_self (s : State) : s.enter s.mode = s :=
  congrArg s.setCanstat (setModeField_self s.reg.canstat)

/-! ### The four steps -/

/-- Step 1 touches TX buffers only (R311). -/
theorem abortPending_eq (s : State) : abortPending s = { s with reg := { s.reg with tx := (abortPending s).reg.tx } } := by
  unfold abortPending abortOne
  split_ifs <;> rfl

theorem abortPending_of_not_abat {s : State} (h : s.abat = false) : abortPending s = s := if_neg (by simp [h])

/-- Step 2 as one store (R312). -/
theorem snapRequest_eq (s : State) :
    snapRequest s = s.setCanctrl (setModeField s.reg.canctrl (if 4 < s.reqMode.toNat then s.mode else s.reqMode)) := by
  unfold snapRequest
  split
  · rfl
  · exact (congrArg s.setCanctrl (setModeField_self s.reg.canctrl)).symm

/-- Step 3 does nothing while the chip sleeps, or when the request is the active mode (R313, R315). -/
theorem commitMode_of_stay {s : State} (h : s.mode = modeSleep ∨ s.reqMode = s.mode) : commitMode false s = s := by
  refine if_neg ?_
  rintro ⟨hne, hawake | hwake⟩
  · exact h.elim hawake hne
  · cases hwake

/-- Step 3 otherwise: the request becomes the active mode, and the requests of buffers 0 and 1 are made again (R313). -/
theorem commitMode_of_change {s : State} (hawake : s.mode ≠ modeSleep) (hne : s.reqMode ≠ s.mode) :
    commitMode false s = requestToSend (pendingBitmap s) (s.enter s.reqMode) :=
  if_pos ⟨hne, .inl hawake⟩

/-- Step 4 as one store (R314). -/
theorem forceListen_eq (s : State) :
    forceListen s =
      s.setCanctrl (setModeField s.reg.canctrl (if s.mode = modeSleep then modeListen else s.reqMode)) := by
  unfold forceListen
  split
  · rfl
  · exact (congrArg s.setCanctrl (setModeField_self s.reg.canctrl)).symm

/-! ### The modes after a write -/

theorem resolve_canctrlAddress : ∀ row : Fin 8, resolve (canctrlAddress row) = ⟨.canctrl, 0xFF#8, false, true⟩ := by
  decide

/-- All bits of canctrl are writable; then the mode controller runs, and it is no wake-up (R233, R310). -/
theorem update_canctrl (row : Fin 8) (v : Byte) (s : State) :
    update (canctrlAddress row) v s = recomputeMode false (s.setCanctrl v) := by
  rw [update_of_resolve (resolve_canctrlAddress row), mergeMasked_ones]
  rfl

/-- The active mode after `v` was written to canctrl in mode `m` (R317). -/
def modeAfterWrite (m : BitVec 3) (v : Byte) : BitVec 3 :=
  if m = modeSleep ∨ 4 < (modeField v).toNat then m else modeField v

/-- canctrl after `v` was written to it and mode `m` is active: its request reads back as `m`, asleep as LISTEN (R312,
R314). -/
def canctrlAfterWrite (m : BitVec 3) (v : Byte) : Byte := setModeField v (if m = modeSleep then modeListen else m)

theorem modeAfterWrite_eq_self_iff (m : BitVec 3) (v : Byte) :
    modeAfterWrite m v = m ↔ m = modeSleep ∨ 4 < (modeField v).toNat ∨ modeField v = m := by
  unfold modeAfterWrite
  split_ifs with h
  · exact ⟨fun _ => h.imp_right .inl, fun _ => rfl⟩
  · exact ⟨fun e => .inr (.inr e), fun e => (or_assoc.2 e).resolve_left h⟩

theorem canctrlAfterWrite_modeField {v : Byte} (h : modeField v ≠ modeSleep) : canctrlAfterWrite (modeField v) v = v := by
  rw [canctrlAfterWrite, if_neg h, setModeField_self]

/-- Steps 2 to 4 where the active mode stays: the request is settled. -/
theorem forceListen_commitMode_of_stay {s : State} (h : modeAfterWrite s.mode s.reg.canctrl = s.mode) :
    forceListen (commitMode false (snapRequest s)) = s.setCanctrl (canctrlAfterWrite s.mode s.reg.canctrl) := by
  rw [modeAfterWrite_eq_self_iff] at h
  have hsettled : s.mode = modeSleep ∨ (if 4 < s.reqMode.toNat then s.mode else s.reqMode) = s.mode := by
    rcases h with h | h | h
    · exact .inl h
    · exact .inr (if_pos h)
    · exact .inr ((congrArg (ite _ s.mode) h).trans (ite_self _))
  rw [snapRequest_eq, commitMode_of_stay, forceListen_eq]
  · simp only [State.setCanctrl_mode, State.setCanctrl_reg_canctrl, State.setCanctrl_reqMode, modeField_setModeField,
      setModeField_setModeField]
    rcases hsettled with hm | hr
    · simp only [hm, if_true, canctrlAfterWrite]
      rfl
    · rw [hr]
      rfl
  · simpa using hsettled

/-- Steps 2 to 4 where the active mode changes: requests are made again in the new mode, and the request is settled. -/
theorem forceListen_commitMode_of_change {s : State} (h : modeAfterWrite s.mode s.reg.canctrl ≠ s.mode) :
    forceListen (commitMode false (snapRequest s)) =
      (requestToSend (pendingBitmap s) (s.enter (modeAfterWrite s.mode s.reg.canctrl))).setCanctrl
        (canctrlAfterWrite (modeAfterWrite s.mode s.reg.canctrl) s.reg.canctrl) := by
  have hto : modeAfterWrite s.mode s.reg.canctrl = s.reqMode := if_neg fun e => h (if_pos e)
  rw [Ne, modeAfterWrite_eq_self_iff, not_or, not_or] at h
  obtain ⟨hawake, hle, hne⟩ := h
  have hsnap : snapRequest s = s := if_neg hle
  rw [hsnap, commitMode_of_change hawake hne, forceListen_eq, hto, requestToSend_mode, enter_mode, requestToSend_reqMode,
    requestToSend_reg_canctrl]
  rfl

/-- A write that leaves the active mode only aborts under ABAT and settles the request. -/
theorem update_canctrl_of_stay (row : Fin 8) {v : Byte} {s : State} (h : modeAfterWrite s.mode v = s.mode) :
    update (canctrlAddress row) v s = (abortPending (s.setCanctrl v)).setCanctrl (canctrlAfterWrite s.mode v) := by
  rw [update_canctrl, recomputeMode, forceListen_commitMode_of_stay] <;> simp [h]

/-- A write that changes the active mode: pending requests are aborted under ABAT, and made again in the new mode. -/
theorem update_canctrl_of_change (row : Fin 8) {v : Byte} {s : State} (h : modeAfterWrite s.mode v ≠ s.mode) :
    update (canctrlAddress row) v s =
      (requestToSend (pendingBitmap (abortPending (s.setCanctrl v)))
        ((abortPending (s.setCanctrl v)).enter (modeAfterWrite s.mode v))).setCanctrl
          (canctrlAfterWrite (modeAfterWrite s.mode v) v) := by
  rw [update_canctrl, recomputeMode, forceListen_commitMode_of_change] <;> simp [h]

theorem update_canctrl_mode (row : Fin 8) (v : Byte) (s : State) :
    (update (canctrlAddress row) v s).mode = modeAfterWrite s.mode v := by
  by_cases h : modeAfterWrite s.mode v = s.mode
  · rw [update_canctrl_of_stay row h, State.setCanctrl_mode, abortPending_mode]
    exact h.symm
  · rw [update_canctrl_of_change row h, State.setCanctrl_mode, requestToSend_mode, enter_mode]

theorem update_canctrl_reg_canctrl (row : Fin 8) (v : Byte) (s : State) :
    (update (canctrlAddress row) v s).reg.canctrl = canctrlAfterWrite (modeAfterWrite s.mode v) v := by
  by_cases h : modeAfterWrite s.mode v = s.mode
  · rw [update_canctrl_of_stay row h, h]
    rfl
  · rw [update_canctrl_of_change row h]
    rfl

/-! ### Under ABAT -/

/-- TX buffer after its pending request was aborted (R311, D24). -/
def Buffer.aborted (t : Buffer) : Buffer := { t with ctrl := setBit (setBit t.ctrl txreqBit false) abtfBit true }

theorem abortOne_eq (s : State) (n : Fin Config.nTx) :
    abortOne s n = if s.txreq n = true then s.setTx n s.reg.tx[n].aborted else s := by
  simp [abortOne, State.setTxCtrlBit, setTx_setTx, Buffer.aborted]

theorem abortOne_tx (s : State) (n m : Fin Config.nTx) :
    (abortOne s n).reg.tx[m] = if m = n ∧ s.txreq m = true then s.reg.tx[m].aborted else s.reg.tx[m] := by
  rw [abortOne_eq]
  by_cases hreq : s.txreq n = true
  · rw [if_pos hreq, State.setTx_reg_tx, tx_getElem_set]
    by_cases hn : m = n
    · simp [hn, hreq]
    · simp [hn]
  · have hnot : ¬(m = n ∧ s.txreq m = true) := fun h => hreq (h.1 ▸ h.2)
    rw [if_neg hreq, if_neg hnot]

/-- Step 1 under ABAT: buffers 0 and 1 are aborted if pending, never buffer 2 (R311). -/
theorem abortPending_tx_of_abat {s : State} (h : s.abat = true) (n : Fin Config.nTx) :
    (abortPending s).reg.tx[n] = if n ≠ 2 ∧ s.txreq n = true then s.reg.tx[n].aborted else s.reg.tx[n] := by
  rw [abortPending, if_pos h, abortOne_tx, abortOne_tx, abortOne_txreq]
  match n with
  | 0 => simp
  | 1 => simp
  | 2 => simp

/-- Under ABAT a change of mode sends nothing: the write aborts, moves the mode and settles the request (R319 (b)). -/
theorem update_canctrl_of_abat (row : Fin 8) {v : Byte} (h : bit v abatBit = true) (s : State) :
    update (canctrlAddress row) v s = ((abortPending (s.setCanctrl v)).enter (modeAfterWrite s.mode v)).setCanctrl
      (canctrlAfterWrite (modeAfterWrite s.mode v) v) := by
  by_cases hm : modeAfterWrite s.mode v = s.mode
  · have hself : (abortPending (s.setCanctrl v)).enter s.mode = abortPending (s.setCanctrl v) := by
      have he := enter_self (abortPending (s.setCanctrl v))
      rwa [abortPending_mode] at he
    rw [update_canctrl_of_stay row hm, hm, hself]
  · rw [update_canctrl_of_change row hm, requestToSend_of_abat]
    simpa [State.enter] using h

/-- Settles O52: the buffers are those of step 1, `abortPending_tx_of_abat`. -/
theorem abatAbortsBuffers0And1 : Obligations.AbatAbortsBuffers0And1 := by
  intro row v s habat
  refine ⟨_, rfl, fun n => ?_, ?_⟩
  · rw [update_canctrl_of_abat row habat]
    exact abortPending_tx_of_abat (s := s.setCanctrl v) habat n
  · rw [update_canctrl_mode, update_canctrl_of_abat row habat, abortPending_eq]
    rfl

/-! ### Without ABAT -/

theorem update_canctrl_of_stay_of_not_abat (row : Fin 8) {v : Byte} (h : bit v abatBit = false) {s : State}
    (hm : modeAfterWrite s.mode v = s.mode) :
    update (canctrlAddress row) v s = s.setCanctrl (canctrlAfterWrite s.mode v) := by
  rw [update_canctrl_of_stay row hm, abortPending_of_not_abat (s := s.setCanctrl v) h]
  rfl

theorem update_canctrl_of_change_of_not_abat (row : Fin 8) {v : Byte} (h : bit v abatBit = false) {s : State}
    (hm : modeAfterWrite s.mode v ≠ s.mode) :
    update (canctrlAddress row) v s =
      (requestToSend (pendingBitmap s) ((s.enter (modeAfterWrite s.mode v)).setCanctrl v)).setCanctrl
          (canctrlAfterWrite (modeAfterWrite s.mode v) v) := by
  rw [update_canctrl_of_change row hm, abortPending_of_not_abat (s := s.setCanctrl v) h]
  rfl

/-- Requesting a pending buffer again only clears its mark ABTF. -/
theorem withRequest_true_of_txreq {s : State} {n : Fin Config.nTx} (h : s.txreq n = true) :
    s.reg.tx[n].withRequest true = { s.reg.tx[n] with ctrl := setBit s.reg.tx[n].ctrl abtfBit false } := by
  rw [Buffer.withRequest, setBit_self (setBit _ _ _) txreqBit true (by decide)]
  exact (bit_setBit_ne _ _ (by decide) (by decide)).trans h

/-- What making the pending requests again does where nothing is sent (R300, R313). -/
theorem requestToSend_pending_tx {s : State} (habat : s.abat = false) (hsends : s.sends = false) (n : Fin Config.nTx) :
    (requestToSend (pendingBitmap s) s).reg.tx[n] =
      if n ≠ 2 ∧ s.txreq n = true then { s.reg.tx[n] with ctrl := setBit s.reg.tx[n].ctrl abtfBit false }
      else s.reg.tx[n] := by
  rw [requestToSend_of_not_sends _ s habat hsends, foldl_setRequest_tx]
  simp only [mem_sendOrder, pendingBitmap_getLsbD, Bool.and_eq_true, decide_eq_true_eq]
  split
  · next h => exact withRequest_true_of_txreq h.2
  · rfl

/-- The table of R317 in two halves: the active mode, and the request that reads back. -/
theorem modeAfterWrite_request (m : BitVec 3) (v : Byte) :
    (modeAfterWrite m v, modeField (canctrlAfterWrite (modeAfterWrite m v) v)) =
      (if m = modeSleep then (modeSleep, modeListen)
      else if modeField v = modeSleep then (modeSleep, modeListen)
      else if 4 < (modeField v).toNat then (m, m)
      else (modeField v, modeField v)) := by
  have hsleep : ¬4 < modeSleep.toNat := by decide
  rw [canctrlAfterWrite, modeField_setModeField]
  unfold modeAfterWrite
  by_cases hm : m = modeSleep
  · simp [hm]
  by_cases hv : modeField v = modeSleep
  · simp [hm, hv, hsleep]
  by_cases hle : 4 < (modeField v).toNat
  · simp [hm, hv, hle]
  · simp [hm, hv, hle]

/-- Settles O50: the modes are `modeAfterWrite_request`; where the mode changes, `requestToSend_pending_tx` says what the
re-run leaves of the TX buffers. -/
theorem modeTransitionTable : Obligations.ModeTransitionTable := by
  intro row v s _
  refine ⟨_, rfl, ?_, ?_, fun habat hm => ?_⟩
  · rw [update_canctrl_reg_canctrl]
    exact setModeField_and_low v _
  · rw [← modeAfterWrite_request, State.reqMode, update_canctrl_mode, update_canctrl_reg_canctrl]
  · rw [update_canctrl_mode] at hm ⊢
    by_cases hstay : modeAfterWrite s.mode v = s.mode
    · rw [update_canctrl_of_stay_of_not_abat row habat hstay, hstay]
      refine ⟨fun n => (if_neg fun h => h.1 rfl).symm, ?_⟩
      rw [State.mode, setModeField_self]
      rfl
    · have hsends : ((s.enter (modeAfterWrite s.mode v)).setCanctrl v).sends = false :=
        decide_eq_false (by rw [State.setCanctrl_mode, enter_mode]; exact not_or.2 (hm.resolve_left hstay))
      have hclear : ((s.enter (modeAfterWrite s.mode v)).setCanctrl v).abat = false := habat
      rw [update_canctrl_of_change_of_not_abat row habat hstay]
      refine ⟨fun n => ?_, ?_⟩
      · simp only [ne_eq, hstay, not_false_eq_true, true_and]
        exact requestToSend_pending_tx hclear hsends n
      · rw [requestToSend_of_not_sends _ _ hclear hsends, foldl_setRequest_eq]
        rfl

end Sys2Proof.Machine
end

section
/-! SUPPORT. A write to canctrl that enters a sending mode (46_mode_control.md R313, R319 (d)): the pending buffers 0 and 1
are served (R383), and what is sent or received does not depend on canctrl. -/

namespace Sys2Proof.Machine

open Sys2Proof

/-! ### TX buffer 2 -/

theorem requestOne_tx_of_ne (s : State) {n m : Fin Config.nTx} (h : m ≠ n) :
    (requestOne s n).reg.tx[m] = s.reg.tx[m] := by
  have hrequest : (s.setRequest true n).reg.tx[m] = s.reg.tx[m] := by rw [setRequest_tx, if_neg h]
  rw [requestOne, setTxCtrlBit_setTxCtrlBit, trySend, if_pos (txreq_setRequest s n), doSend_reg_tx]
  split
  · rw [setRequest_setTxCtrlBit, setRequest_tx, if_neg h]
  · exact hrequest

/-- Arbitration leaves the buffers alone that were not requested. -/
theorem requestToSend_tx_of_not_named {bitmap : BitVec 3} {m : Fin Config.nTx} (h : bitmap.getLsbD m.val = false)
    (s : State) : (requestToSend bitmap s).reg.tx[m] = s.reg.tx[m] := by
  unfold requestToSend
  split
  · rfl
  · refine List.foldlRecOn (motive := fun t : State => t.reg.tx[m] = s.reg.tx[m]) _ _ rfl fun t ht n hn => ?_
    have hne : m ≠ n := fun e => by
      rw [mem_sendOrder, ← e, h] at hn
      cases hn
    rw [requestOne_tx_of_ne t hne, ht]

theorem abortPending_tx2 (s : State) : (abortPending s).reg.tx[2] = s.reg.tx[2] := by
  cases h : s.abat with
  | true => exact (abortPending_tx_of_abat h 2).trans (if_neg fun e => e.1 rfl)
  | false => rw [abortPending_of_not_abat h]

/-- No write to canctrl touches TX buffer 2 (R311, R313). -/
theorem update_canctrl_tx2 (row : Fin 8) (v : Byte) (s : State) :
    (update (canctrlAddress row) v s).reg.tx[2] = s.reg.tx[2] := by
  have habort : (abortPending (s.setCanctrl v)).reg.tx[2] = s.reg.tx[2] := abortPending_tx2 _
  by_cases h : modeAfterWrite s.mode v = s.mode
  · rw [update_canctrl_of_stay row h]
    exact habort
  · rw [update_canctrl_of_change row h]
    exact (requestToSend_tx_of_not_named (pendingBitmap_getLsbD _ 2) _).trans habort

/-! ### Entering a mode awake -/

/-- The bitmap of the re-run, buffer by buffer (D25). -/
theorem pendingBitmap_eq (s : State) :
    pendingBitmap s = (if s.txreq 0 then 1#3 else 0#3) ||| (if s.txreq 1 then 2#3 else 0#3) := by
  unfold pendingBitmap
  cases s.txreq 0 <;> cases s.txreq 1 <;> rfl

/-- A write with ABAT clear that enters another mode than SLEEP: canctrl is the byte written, and the pending requests are
made again in the new mode. -/
theorem update_canctrl_of_enter (row : Fin 8) {v : Byte} {m : BitVec 3} {s : State} (habat : bit v abatBit = false)
    (hv : modeField v = m) (hle : m.toNat ≤ 4) (hm : m ≠ modeSleep) (hne : s.mode ≠ m) (hawake : s.mode ≠ modeSleep) :
    update (canctrlAddress row) v s = (requestToSend (pendingBitmap s) ((s.enter m).setCanctrl v)).setCanctrl v := by
  subst hv
  have hto : modeAfterWrite s.mode v = modeField v := if_neg (not_or.2 ⟨hawake, Nat.not_lt.2 hle⟩)
  rw [update_canctrl_of_change_of_not_abat row habat (by rw [hto]; exact hne.symm), hto, canctrlAfterWrite_modeField hm]

/-! ### What does not depend on canctrl -/

theorem raised_setCanctrl (fl v : Byte) (s : State) : raised fl (s.setCanctrl v) = (raised fl s).setCanctrl v := by
  unfold raised State.setCanctrl
  dsimp only
  split <;> rfl

/-- A frame that is looked at is stored, overflows, or is accepted by no buffer. -/
theorem storedIn_or_overflowsIn_or_unmatched (f : Frame) (r : RegFile) :
    (∃ b k, StoredIn f r b k) ∨ (∃ n, OverflowsIn f r n) ∨ ∀ b k, checkFilters f b r ≠ .matched k := by
  by_cases h0 : ∃ k, checkFilters f 0 r = .matched k
  · obtain ⟨k, hk⟩ := h0
    cases hfull0 : r.rxFull 0 with
    | false => exact .inl ⟨0, k, .inl ⟨rfl, hk, hfull0⟩⟩
    | true =>
      cases hbukt : bit r.rx[0].ctrl buktBit with
      | false => exact .inr (.inl ⟨0, .inl ⟨rfl, ⟨k, hk⟩, hfull0, .inl hbukt⟩⟩)
      | true =>
        cases hfull1 : r.rxFull 1 with
        | false => exact .inl ⟨1, k, .inr (.inl ⟨rfl, hk, hfull0, hbukt, hfull1⟩)⟩
        | true => exact .inr (.inl ⟨0, .inl ⟨rfl, ⟨k, hk⟩, hfull0, .inr hfull1⟩⟩)
  · have hnone : ∀ j, checkFilters f 0 r ≠ .matched j := not_exists.1 h0
    by_cases h1 : ∃ k, checkFilters f 1 r = .matched k
    · obtain ⟨k, hk⟩ := h1
      cases hfull1 : r.rxFull 1 with
      | false => exact .inl ⟨1, k, .inr (.inr ⟨rfl, hnone, hk, hfull1⟩)⟩
      | true => exact .inr (.inl ⟨1, .inr ⟨rfl, hnone, ⟨k, hk⟩, hfull1⟩⟩)
    · refine .inr (.inr fun b k hk => ?_)
      match b with
      | 0 => exact hnone k hk
      | 1 => exact h1 ⟨k, hk⟩

/-- The receive path neither reads nor changes canctrl (R271). -/
theorem receiveAwake_setCanctrl (f : Frame) (v : Byte) {s : State} (hm : s.mode ≠ modeSleep) :
    receiveWith irqRaiseAwake f (s.setCanctrl v) = (receiveWith irqRaiseAwake f s).setCanctrl v := by
  have hraise : ∀ (fl : Byte) (t : State), t.mode = s.mode →
      irqRaiseAwake fl (t.setCanctrl v) = (irqRaiseAwake fl t).setCanctrl v := fun fl t ht => by
    rw [irqRaiseAwake_eq fl t (ht ▸ hm), irqRaiseAwake_eq fl (t.setCanctrl v) (ht ▸ hm), raised_setCanctrl]
  rcases storedIn_or_overflowsIn_or_unmatched f s.reg with ⟨b, k, h⟩ | ⟨n, h⟩ | h
  · rw [receiveWith_of_storedIn h, receiveWith_of_storedIn (s := s.setCanctrl v) h]
    exact hraise _ (s.setRx b (storedBuffer f b k s.reg.rx[b])) rfl
  · rw [receiveWith_of_overflowsIn h, receiveWith_of_overflowsIn (s := s.setCanctrl v) h]
    exact hraise _ (s.setEflg (setBit s.reg.eflg (rxovrBit n) true)) rfl
  · rw [receiveWith_of_unmatched h, receiveWith_of_unmatched (s := s.setCanctrl v) h]

/-- In LOOPBACK mode a clean frame goes to the filters (R297). -/
theorem receivedAsInListen_of_loopback {f : Frame} (hf : CleanFrame f) {s : State} (hm : s.mode = modeLoopback) :
    receivedAsInListen f s = receiveWith irqRaiseAwake f s := by
  have hclean : ¬(f.err = true ∨ f.flags ≠ 0) := by simp [hf.1, hf.2]
  have hawake : s.mode ≠ modeSleep := by rw [hm]; decide
  rw [← onFrame_loopback f s hf hm, onFrameWith, if_neg hclean, if_neg hawake]

theorem loopedBack_setCanctrl {frames : Fin Config.nTx → Frame} {n : Fin Config.nTx} (hf : CleanFrame (frames n))
    {s : State} (hm : s.mode = modeLoopback) (v : Byte) :
    loopedBack frames (s.setCanctrl v) n = (loopedBack frames s n).setCanctrl v := by
  have hawake : s.mode ≠ modeSleep := by rw [hm]; decide
  rw [loopedBack, receivedAsInListen_of_loopback hf (s := s.setCanctrl v) hm, receiveAwake_setCanctrl _ _ hawake,
    raised_setCanctrl, ← receivedAsInListen_of_loopback hf hm, loopedBack]

theorem foldl_loopedBack_setCanctrl {frames : Fin Config.nTx → Frame} (hf : ∀ n, CleanFrame (frames n))
    (l : List (Fin Config.nTx)) {s : State} (hm : s.mode = modeLoopback) (v : Byte) :
    l.foldl (loopedBack frames) (s.setCanctrl v) = (l.foldl (loopedBack frames) s).setCanctrl v := by
  have hawake : s.mode ≠ modeSleep := by rw [hm]; decide
  induction l using List.reverseRecOn with
  | nil => rfl
  | append_singleton l n ih =>
    rw [List.foldl_concat, List.foldl_concat, ih,
      loopedBack_setCanctrl (hf n) ((foldl_loopedBack_mode frames hawake l).trans hm)]

/-- What is looped back is not put out (R297). -/
theorem foldl_loopedBack_out (frames : Fin Config.nTx → Frame) {s : State} (hm : s.mode ≠ modeSleep)
    (l : List (Fin Config.nTx)) : (l.foldl (loopedBack frames) s).out = s.out := by
  rw [foldl_loopedBack_eq_withReceiveState frames hm]
  rfl

theorem foldl_setRequest_out (b : Bool) (l : List (Fin Config.nTx)) (s : State) :
    (l.foldl (State.setRequest b) s).out = s.out := by
  rw [foldl_setRequest_eq]

/-- A transmission that puts nothing out changes TX buffers only. -/
theorem withTransmitState_of_out_eq {u v : State} (h : v.out = u.out) :
    u.withTransmitState v = { u with reg := { u.reg with tx := v.reg.tx } } := by
  rw [State.withTransmitState, h]

/-! ### The two sending modes -/

/-- Settles O53: both writes are `update_canctrl_of_enter`, and the arbiter does in the new mode what RTS does there. -/
theorem modeChangeServesBuffers0And1 : Obligations.ModeChangeServesBuffers0And1 := by
  refine ⟨update_canctrl_tx2, fun row v s habat hv hne hawake hi => ?_, fun row v s habat hv hne hawake => ?_⟩
  · have hirq : InterruptsCurrent ((s.enter modeNormal).setCanctrl v) :=
      ⟨hi.1, (icodField_setModeField _ _).trans hi.2.1, hi.2.2⟩
    have hsent := requestToSend_of_normal (pendingBitmap s) (s := (s.enter modeNormal).setCanctrl v) habat
      (enter_mode s modeNormal) hirq
    refine ⟨_, _, _, rfl, rfl, rfl, ?_⟩
    rw [← pendingBitmap_eq, update_canctrl_of_enter row habat hv (by decide) (by decide) hne hawake, hsent,
      raised_setCanctrl]
    refine ⟨fun n => ?_, ?_⟩
    · simp only [State.setCanctrl_reg_tx, State.withTransmitState, foldl_served_reg_tx, foldl_setRequest_tx, mem_sendOrder]
      rfl
    · simp only [State.withTransmitState, foldl_served_out]
      rfl
  · have hm : (s.enter modeLoopback).mode = modeLoopback := enter_mode s modeLoopback
    have hnotSleep : ((s.enter modeLoopback).setCanctrl v).mode ≠ modeSleep := by
      rw [State.setCanctrl_mode, hm]
      decide
    have hlooped := requestToSend_of_loopback (pendingBitmap s) (s := (s.enter modeLoopback).setCanctrl v) habat hm
    rw [withTransmitState_of_out_eq (by rw [foldl_setRequest_out, foldl_loopedBack_out _ hnotSleep]),
      foldl_loopedBack_setCanctrl (fun _ => ⟨rfl, rfl⟩) _ hm] at hlooped
    refine ⟨_, _, _, rfl, rfl, rfl, ?_⟩
    rw [← pendingBitmap_eq, update_canctrl_of_enter row habat hv (by decide) (by decide) hne hawake, hlooped]
    refine ⟨fun n => ?_, rfl⟩
    simp only [State.setCanctrl_reg_tx, foldl_setRequest_tx, mem_sendOrder]
    rfl

end Sys2Proof.Machine
end

section
/-! SUPPORT. How a step leaves SLEEP (46_mode_control.md R315, R318): only where flags are raised can the mode controller
wake the chip up, and only RESET and `DeviceReset` set the mode otherwise. -/

namespace Sys2Proof.Machine

open Sys2Proof

/-! ### The wake-up -/

/-- From `s`, a sleeping chip, to `t`: it still sleeps, or WAKIF has newly become effective and it is in LISTEN (R318). -/
def SleepsOrWakes (s t : State) : Prop :=
  t.mode = modeSleep ∨ t.mode = modeListen ∧ bit s.irqPrev 6 = false ∧ bit t.irqPrev 6 = true

/-- It is a matter of registers and `irq_prev`. -/
theorem SleepsOrWakes.congr {s t s' t' : State} (h : SleepsOrWakes s t) (hs : s'.irqPrev = s.irqPrev)
    (hreg : t'.reg = t.reg) (ht : t'.irqPrev = t.irqPrev) : SleepsOrWakes s' t' := by
  unfold SleepsOrWakes State.mode
  rw [hs, hreg, ht]
  exact h

theorem SleepsOrWakes.of_mode_eq {s t : State} (hm : s.mode = modeSleep) (h : t.mode = s.mode) : SleepsOrWakes s t :=
  .inl (h.trans hm)

/-- Where nothing is sent, arbitration raises nothing. -/
theorem requestToSend_irqPrev_of_not_sends (bitmap : BitVec 3) {s : State} (h : s.sends = false) :
    (requestToSend bitmap s).irqPrev = s.irqPrev := by
  cases habat : s.abat with
  | true => rw [requestToSend_of_abat bitmap s habat]
  | false => rw [requestToSend_of_not_sends bitmap s habat h, foldl_setRequest_eq]

/-- The mode controller as a wake-up, whatever requests are pending: LISTEN is entered, and no flag raised (R318). -/
theorem recomputeMode_wakes {s : State} (hm : s.mode = modeSleep) (hr : s.reqMode = modeListen) :
    (recomputeMode true s).mode = modeListen ∧ (recomputeMode true s).irqPrev = s.irqPrev := by
  have hsnap : snapRequest (abortPending s) = abortPending s := if_neg (by rw [abortPending_reqMode, hr]; decide)
  have hcommit : commitMode true (abortPending s) =
      requestToSend (pendingBitmap (abortPending s)) ((abortPending s).enter (abortPending s).reqMode) :=
    if_pos ⟨by rw [abortPending_reqMode, abortPending_mode, hr, hm]; decide, .inr rfl⟩
  have hlisten : ((abortPending s).enter modeListen).sends = false := by
    rw [State.sends, enter_mode]
    decide
  rw [recomputeMode, hsnap, hcommit, abortPending_reqMode, hr, forceListen_mode, forceListen_irqPrev,
    requestToSend_irqPrev_of_not_sends _ hlisten, requestToSend_mode, enter_mode]
  exact ⟨rfl, abortPending_irqPrev s⟩

/-- The mode controller leaves a sleeping chip asleep when it runs for a write to canctrl (R315). -/
theorem recomputeMode_sleeps_on {s : State} (hm : s.mode = modeSleep) : (recomputeMode false s).mode = modeSleep := by
  have hasleep : (snapRequest (abortPending s)).mode = modeSleep := by rw [snapRequest_mode, abortPending_mode, hm]
  rw [recomputeMode, commitMode_of_stay (.inl hasleep), forceListen_mode, hasleep]

/-- Raising flags asleep leaves SLEEP only when WAKIF newly becomes effective (R344). -/
theorem irqRaise_sleepsOrWakes (fl : Byte) {s : State} (hm : s.mode = modeSleep) (hr : s.reqMode = modeListen) :
    SleepsOrWakes s (irqRaise fl s) := by
  cases hw : wakes ((s.reg.canintf ||| fl) &&& s.reg.caninte) s with
  | false =>
    refine .of_mode_eq hm ?_
    rw [irqRaise, irqRaiseWith_noWake _ _ _ hw, raised_mode, hw, if_neg Bool.false_ne_true]
  | true =>
    obtain ⟨eff, t, heff, ht, e⟩ := irqRaise_wake fl s hw
    simp only [wakes, ← heff, Bool.and_eq_true, Bool.not_eq_true'] at hw
    obtain ⟨-, hnow, hbefore⟩ := hw
    obtain ⟨hmode, hirq⟩ : t.mode = modeListen ∧ t.irqPrev = eff := by
      rw [ht]
      exact recomputeMode_wakes ((modeField_setIcodField _ _).trans hm) hr
    rw [e]
    refine .inr ⟨hmode, hbefore, ?_⟩
    rw [← hirq] at hnow
    exact hnow

/-! ### A write asleep -/

/-- Of the slots only canctrl, caninte and canintf have a side effect on the active mode (R231, R233). -/
theorem sideEffect_mode {sl : Slot} (h : sl ∉ [Slot.canctrl, .caninte, .canintf]) (s : State) :
    (sideEffect sl s).mode = s.mode := by
  cases sl with
  | canctrl | caninte | canintf => simp at h
  | tx n b =>
    cases b with
    | ctrl =>
      unfold sideEffect txCtrlWritten
      dsimp only
      split
      · exact setTxCtrlBit_mode s n _ _
      · rw [trySend_mode, setTxCtrlBit_mode]
    | _ => rfl
  | rx n b =>
    cases b with
    | ctrl =>
      unfold sideEffect
      dsimp only
      split
      · rfl
      · rfl
    | _ => rfl
  | _ => rfl

/-- A register write is no way out of SLEEP but by WAKIF (R315). -/
theorem update_sleepsOrWakes (a : Addr) (v : Byte) {s : State} (hm : s.mode = modeSleep) (hr : s.reqMode = modeListen) :
    SleepsOrWakes s (update a v s) := by
  have hmode : (maskedStore a v s).mode = modeSleep := (maskedStore_mode a v s).trans hm
  have hreq : (resolve a).slot ≠ .canctrl → (maskedStore a v s).reqMode = modeListen := fun h =>
    (congrArg modeField (get_maskedStore_of_ne a v s h.symm)).trans hr
  have hirq : s.irqPrev = (maskedStore a v s).irqPrev := rfl
  unfold update
  cases hsl : (resolve a).slot with
  | canctrl => exact .inl (recomputeMode_sleeps_on hmode)
  | caninte | canintf =>
    exact (irqRaise_sleepsOrWakes 0x00 hmode (hreq (by rw [hsl]; decide))).congr hirq rfl rfl
  | _ => exact .of_mode_eq hm ((sideEffect_mode (by simp) _).trans (maskedStore_mode a v s))

/-! ### A byte -/

/-- Reset leaves the chip in CONFIG (R70). -/
theorem modeField_reset : modeField RegFile.reset.canstat = modeConfig := by decide

/-- Of the commands only RESET changes the active mode (R200, R203). -/
theorem exec_mode {i : Instr} {s t : State} (he : exec i s = .next t) (hi : i ≠ .reset) : t.mode = s.mode := by
  cases i with
  | reset => exact absurd rfl hi
  | rts nnn =>
    obtain rfl := Host.Outcome.next.inj he
    exact requestToSend_mode nnn s
  | _ =>
    obtain rfl := Host.Outcome.next.inj he
    rfl

/-- What an accepted byte can do: run a command, write a register, or touch only session and output (R121). -/
theorem spiByte_cases {b : Byte} {s t : State} (h : spiByte b s = .next t) :
    (s.cs = .asserted ∧ s.spi.state = .awaitingInstruction ∧ exec (decodeByte b) s = .next t) ∨
    (∃ a v, t.reg = (update a v s).reg ∧ t.irqPrev = (update a v s).irqPrev) ∨
    (t.reg = s.reg ∧ t.irqPrev = s.irqPrev) := by
  unfold spiByte at h
  split at h
  · cases h
  · next hcs =>
    have hasserted : s.cs = .asserted := by
      cases hc : s.cs with
      | asserted => rfl
      | deasserted => exact absurd hc hcs
    cases hst : s.spi.state with
    | awaitingInstruction =>
      rw [hst] at h
      exact .inl ⟨hasserted, rfl, h⟩
    | writingData =>
      rw [hst] at h
      obtain rfl := Host.Outcome.next.inj h
      exact .inr (.inl ⟨s.spi.address, b, rfl, rfl⟩)
    | modifyingData =>
      rw [hst] at h
      obtain rfl := Host.Outcome.next.inj h
      exact .inr (.inl ⟨s.spi.address, modifyMerge b s, rfl, rfl⟩)
    | _ =>
      rw [hst] at h
      obtain rfl := Host.Outcome.next.inj h
      exact .inr (.inr ⟨rfl, rfl⟩)

/-- A byte is no way out of SLEEP but by WAKIF or the command RESET. -/
theorem spiByte_sleepsOrWakes {b : Byte} {s t : State} (hm : s.mode = modeSleep) (hr : s.reqMode = modeListen)
    (h : spiByte b s = .next t) :
    SleepsOrWakes s t ∨
      t.mode = modeConfig ∧ s.cs = .asserted ∧ s.spi.state = .awaitingInstruction ∧ b = encodeByte .reset := by
  rcases spiByte_cases h with ⟨hcs, hst, he⟩ | ⟨a, v, hreg, hirq⟩ | ⟨hreg, -⟩
  · by_cases hi : decodeByte b = .reset
    · rw [hi] at he
      obtain rfl := Host.Outcome.next.inj he
      exact .inr ⟨modeField_reset, hcs, hst, (decodeByte_eq_iff rfl b).1 hi⟩
    · exact .inl (.of_mode_eq hm (exec_mode he hi))
  · exact .inl ((update_sleepsOrWakes a v hm hr).congr rfl hreg hirq)
  · exact .inl (.of_mode_eq hm (congrArg (fun r : RegFile => modeField r.canstat) hreg))

/-! ### The other events -/

theorem csAssert_mode (s : State) : (csAssert s).mode = s.mode := by
  unfold csAssert
  split <;> rfl

/-- The end of a transaction recomputes the interrupt state after a READ RX BUFFER, and only so may wake the chip (R183). -/
theorem csDeassert_sleepsOrWakes {s : State} (hm : s.mode = modeSleep) (hr : s.reqMode = modeListen) :
    SleepsOrWakes s (csDeassert s) := by
  unfold csDeassert
  split
  · exact .inl hm
  · dsimp only
    cases (s.setCs .deasserted).spi.rxMemo with
    | none => exact .inl hm
    | some i =>
      exact (irqRaise_sleepsOrWakes 0x00
        (s := (s.setCs .deasserted).setCanintf (setBit s.reg.canintf (rxifBit i) false)) hm hr).congr rfl rfl rfl

/-- A frame asleep raises WAKIF at most (R252). -/
theorem busRx_sleepsOrWakes (f : Frame) {s : State} (hm : s.mode = modeSleep) (hr : s.reqMode = modeListen) :
    SleepsOrWakes s (busRx f s) := by
  unfold busRx
  split
  · refine SleepsOrWakes.congr (t := (onFrame f s).2) ?_ rfl rfl rfl
    rcases onFrameWith_cases irqRaise f s with e | e | ⟨hawake, -⟩ | ⟨hawake, -⟩
    · rw [onFrame, e]
      exact .inl hm
    · rw [onFrame, e]
      exact irqRaise_sleepsOrWakes flagWak hm hr
    · exact absurd hm hawake
    · exact absurd hm hawake
  · exact .inl hm

/-! ### Every step -/

/-- Settles O51: event by event; a chip that neither sleeps on nor was woken up was reset. -/
theorem onlyWakeOrResetLeavesSleep : Obligations.OnlyWakeOrResetLeavesSleep := by
  intro s t hl hm hstep hleft
  have hr : s.reqMode = modeListen := hl hm
  have hwoken : SleepsOrWakes s t → t.mode = modeListen ∧ bit s.irqPrev 6 = false ∧ bit t.irqPrev 6 = true :=
    fun h => h.resolve_left hleft
  cases hp : s.pending with
  | nil =>
    rw [step, hp] at hstep
    obtain rfl := Host.Outcome.next.inj hstep
    exact absurd hm hleft
  | cons e rest =>
    rw [step_of_pending_cons hp] at hstep
    cases e with
    | spiByte b =>
      rcases spiByte_sleepsOrWakes (s := s.beginEvent rest) hm hr hstep with h | ⟨hconfig, hcs, hst, rfl⟩
      · exact .inl (hwoken h)
      · exact .inr ⟨hconfig, .inr ⟨rest, hcs, hst, hp⟩⟩
    | csAssert =>
      obtain rfl := Host.Outcome.next.inj hstep
      exact absurd ((csAssert_mode (s.beginEvent rest)).trans hm) hleft
    | csDeassert =>
      obtain rfl := Host.Outcome.next.inj hstep
      exact .inl (hwoken (csDeassert_sleepsOrWakes (s := s.beginEvent rest) hm hr))
    | busRx f =>
      obtain rfl := Host.Outcome.next.inj hstep
      exact .inl (hwoken (busRx_sleepsOrWakes f (s := s.beginEvent rest) hm hr))
    | deviceReset =>
      obtain rfl := Host.Outcome.next.inj hstep
      exact .inr ⟨modeField_reset, .inl ⟨rest, rfl⟩⟩

end Sys2Proof.Machine
end

section
/-! SUPPORT. The interrupt and pin aggregator (60_exceptions.md R340 to R345): the interrupt code, everything `irq_raise`
does, and that the pins move only with `irq_prev`, for which the operations that only add flags are followed step by
step. -/

namespace Sys2Proof.Machine

open Sys2Proof

/-! ### The interrupt code -/

/-- A masked comparison of a byte, bit by bit. -/
theorem and_eq_iff_bits (v m w : Byte) : v &&& m = w ↔ ∀ i : Fin 8, (bit v i && bit m i) = bit w i := by
  simp only [← bit_and]
  exact ⟨fun h i => by rw [h], fun h => byte_ext fun i hi => h ⟨i, hi⟩⟩

/-- Settles O37: in each branch of `icod` the bits tested so far decide every masked comparison. -/
theorem interruptCodePriority : Obligations.InterruptCodePriority := by
  intro eff
  have hempty : eff = 0x00 ↔ eff &&& 0xFF = 0x00 := by rw [show eff &&& 0xFF = eff from BitVec.and_allOnes]
  rw [hempty]
  simp only [ne_eq, and_eq_iff_bits, Fin.forall_fin_succ]
  unfold icod
  split_ifs with herr hwake htx0 htx1 htx2 hrx0 hrx1
  · rcases Bool.or_eq_true_iff.1 herr with hmerr | herr <;> simp_all [bit]
  all_goals simp_all [bit]

/-! ### What raising flags does to `irq_prev` and the pins -/

/-- Settles O38: `irqRaise_eq_raised`, by whether WAKIF newly becomes effective in SLEEP mode. -/
theorem interruptRaiseLaw : Obligations.InterruptRaiseLaw := irqRaise_eq_raised

/-- After flags are raised `irq_prev` is the effective set (R341). -/
theorem raised_irqPrev (fl : Byte) (s : State) :
    (raised fl s).irqPrev = (s.reg.canintf ||| fl) &&& s.reg.caninte := by
  unfold raised
  dsimp only
  split
  · next h => exact h.symm
  · rfl

theorem raised_effective (fl : Byte) (s : State) : (raised fl s).reg.effective = (raised fl s).irqPrev := by
  rw [raised_irqPrev, RegFile.effective, raised_reg_canintf]
  unfold raised
  dsimp only
  split <;> rfl

/-- From `s` to `t` the pins moved only if `irq_prev` changed (R341, R345, D23). -/
def PinsFollow (s t : State) : Prop := t.irqPrev = s.irqPrev → t.pin = s.pin

/-- It is a matter of `irq_prev` and the pins. -/
theorem PinsFollow.congr {s t s' t' : State} (h : PinsFollow s t) (hprev : s'.irqPrev = s.irqPrev)
    (hpin : s'.pin = s.pin) (hprev' : t'.irqPrev = t.irqPrev) (hpin' : t'.pin = t.pin) : PinsFollow s' t' := by
  unfold PinsFollow
  rw [hprev, hpin, hprev', hpin']
  exact h

theorem PinsFollow.refl (s : State) : PinsFollow s s := fun _ => rfl

theorem pinsFollow_raised (fl : Byte) (s : State) : PinsFollow s (raised fl s) := by
  intro h
  rw [raised_of_eq ((raised_irqPrev fl s).symm.trans h)]
  rfl

/-! ### A stretch in which flags are only added -/

/-- From `s` to `t` flags were only added: what was effective still is, `irq_prev` is up to date, and the pins follow it.
Flags that are only added cannot bring `irq_prev` back to an earlier value, which makes this transitive. -/
structure AddsFlags (s t : State) : Prop where
  current : t.irqPrev = t.reg.effective
  keeps : ∀ i, bit s.irqPrev i = true → bit t.irqPrev i = true
  pins : PinsFollow s t

namespace AddsFlags

variable {s t u : State}

theorem refl (h : s.irqPrev = s.reg.effective) : AddsFlags s s := ⟨h, fun _ => id, fun _ => rfl⟩

theorem trans (h : AddsFlags s t) (h2 : AddsFlags t u) : AddsFlags s u where
  current := h2.current
  keeps i hi := h2.keeps i (h.keeps i hi)
  pins e := by
    have hback : t.irqPrev = s.irqPrev := byte_ext fun i _ =>
      Bool.eq_iff_iff.2 ⟨fun hi => e ▸ h2.keeps i hi, h.keeps i⟩
    exact (h2.pins (e.trans hback.symm)).trans (h.pins hback)

/-- An update that is about none of the effective set, `irq_prev` and the pins adds no flag. -/
theorem congr (h : AddsFlags s t) (heff : u.reg.effective = t.reg.effective) (hprev : u.irqPrev = t.irqPrev)
    (hpin : u.pin = t.pin) : AddsFlags s u where
  current := by rw [hprev, heff, h.current]
  keeps := hprev ▸ h.keeps
  pins e := hpin.trans (h.pins (hprev ▸ e))

theorem raised_adds (h : AddsFlags s t) (fl : Byte) : AddsFlags s (raised fl t) := by
  refine h.trans ⟨(raised_effective fl t).symm, fun i hi => ?_, pinsFollow_raised fl t⟩
  rw [h.current, RegFile.effective, bit_and, Bool.and_eq_true_iff] at hi
  rw [raised_irqPrev, bit_and, bit_or, hi.1, hi.2]
  rfl

theorem irqRaiseAwake_adds (h : AddsFlags s t) (fl : Byte) (hm : t.mode ≠ modeSleep) :
    AddsFlags s (irqRaiseAwake fl t) := by
  rw [irqRaiseAwake_eq fl t hm]
  exact h.raised_adds fl

theorem onFrameAwake_adds (h : AddsFlags s t) (f : Frame) (hm : t.mode ≠ modeSleep) :
    AddsFlags s (onFrameWith irqRaiseAwake f t).2 := by
  rcases onFrameWith_cases irqRaiseAwake f t with e | e | ⟨-, b, k, e⟩ | ⟨-, n, e⟩ <;> rw [e]
  · exact h
  · exact h.irqRaiseAwake_adds flagWak hm
  · exact (h.congr (u := t.setRx b (storedBuffer f b k t.reg.rx[b])) rfl rfl rfl).irqRaiseAwake_adds _ hm
  · exact (h.congr (u := t.setEflg (setBit t.reg.eflg (rxovrBit n) true)) rfl rfl rfl).irqRaiseAwake_adds _ hm

theorem setTxCtrlBit_adds (h : AddsFlags s t) (n : Fin Config.nTx) (i : Nat) (b : Bool) :
    AddsFlags s (t.setTxCtrlBit n i b) := h.congr rfl rfl rfl

theorem trySend_adds (h : AddsFlags s t) (n : Fin Config.nTx) : AddsFlags s (trySend n t) := by
  unfold trySend
  split
  · cases hs : t.sends with
    | false => rwa [doSend_of_not_sends n t hs]
    | true =>
      obtain ⟨u, hu, e⟩ := doSend_of_sends n t hs
      have hawake : t.mode ≠ modeSleep := not_sleep_of_sends hs
      have hmode : u.mode = t.mode := by
        rcases hu with rfl | rfl <;> simp
      have hadds : AddsFlags s u := by
        rcases hu with rfl | rfl
        · exact h.congr rfl rfl rfl
        · exact h.onFrameAwake_adds _ hawake
      rw [e]
      exact (hadds.setTxCtrlBit_adds n txreqBit false).irqRaiseAwake_adds _ (by simpa [hmode] using hawake)
  · exact h

theorem requestToSend_adds (h : AddsFlags s t) (bitmap : BitVec 3) : AddsFlags s (requestToSend bitmap t) := by
  unfold requestToSend
  split
  · exact h
  · exact foldl_preserves (AddsFlags s) requestOne
      (fun _ n hu => ((hu.setTxCtrlBit_adds n _ _).setTxCtrlBit_adds n _ _).trySend_adds n) _ _ h

/-- The flags are stored in canintf and caninte only (R340). -/
theorem setSlot_adds (h : AddsFlags s t) {sl : Slot} (v : Byte) (hintf : sl ≠ .canintf) (hinte : sl ≠ .caninte) :
    AddsFlags s (t.setSlot sl v) := by
  refine h.congr ?_ rfl rfl
  cases sl with
  | canintf => exact absurd rfl hintf
  | caninte => exact absurd rfl hinte
  | _ => rfl

/-- The mode controller raises flags only through the arbiter (R310 to R314). -/
theorem recomputeMode_adds (h : AddsFlags s t) (wake : Bool) : AddsFlags s (recomputeMode wake t) := by
  have hsnap : AddsFlags s (snapRequest (abortPending t)) :=
    h.congr (by simp [RegFile.effective]) (by simp) (by simp)
  have hcommit : AddsFlags s (commitMode wake (snapRequest (abortPending t))) := by
    unfold commitMode
    split
    · exact (hsnap.congr (u := (snapRequest (abortPending t)).enter _) rfl rfl rfl).requestToSend_adds _
    · exact hsnap
  exact hcommit.congr (by simp [recomputeMode, RegFile.effective]) (forceListen_irqPrev _) (forceListen_pin _)

end AddsFlags

/-! ### The shared operations -/

/-- `irq_raise` moves the pins only with `irq_prev`: a wake-up leaves WAKIF effective, which it was not before (R344). -/
theorem pinsFollow_irqRaise (fl : Byte) (s : State) : PinsFollow s (irqRaise fl s) := by
  cases hw : wakes ((s.reg.canintf ||| fl) &&& s.reg.caninte) s with
  | false =>
    rw [irqRaise, irqRaiseWith_noWake _ _ _ hw]
    exact pinsFollow_raised fl s
  | true =>
    obtain ⟨eff, t, heff, ht, e⟩ := irqRaise_wake fl s hw
    simp only [wakes, ← heff, Bool.and_eq_true, Bool.not_eq_true'] at hw
    obtain ⟨-, hnow, hbefore⟩ := hw
    have hafter : bit t.irqPrev 6 = true := by
      rw [ht]
      exact ((AddsFlags.refl heff).recomputeMode_adds true).keeps 6 hnow
    intro hsame
    have hprev : t.irqPrev = s.irqPrev := by rwa [e] at hsame
    rw [hprev, hbefore] at hafter
    cases hafter

/-- Only bfpctrl is at the address 0x0C (R84). -/
theorem eq_of_resolve_slot_bfpctrl (a : Addr) (h : (resolve a).slot = .bfpctrl) : a = 0x0C := by
  have hbase := baseAddress_resolve_slot a
    (fun e => by simp [(resolve_slot_canstat_iff a).2 e] at h) (fun e => by simp [(resolve_slot_canctrl_iff a).2 e] at h)
  rw [h] at hbase
  exact hbase.symm

/-- Of all register writes only that of bfpctrl moves the pins by itself (R232). -/
theorem pinsFollow_update (a : Addr) (v : Byte) {s : State} (hcur : s.irqPrev = s.reg.effective) (ha : a ≠ 0x0C) :
    PinsFollow s (update a v s) := by
  have hsame : PinsFollow s (maskedStore a v s) := fun _ => rfl
  have hstored : (resolve a).slot ≠ .canintf → (resolve a).slot ≠ .caninte → AddsFlags s (maskedStore a v s) :=
    (AddsFlags.refl hcur).setSlot_adds _
  unfold update
  cases hsl : (resolve a).slot with
  | bfpctrl => exact absurd (eq_of_resolve_slot_bfpctrl a hsl) ha
  | caninte | canintf => exact (pinsFollow_irqRaise 0x00 (maskedStore a v s)).congr rfl rfl rfl rfl
  | canctrl => exact ((hstored (by simp [hsl]) (by simp [hsl])).recomputeMode_adds false).pins
  | tx n b =>
    cases b with
    | ctrl =>
      have hctrl := hstored (by simp [hsl]) (by simp [hsl])
      unfold sideEffect txCtrlWritten
      dsimp only
      split
      · exact (hctrl.setTxCtrlBit_adds n _ _).pins
      · exact ((hctrl.setTxCtrlBit_adds n _ _).trySend_adds n).pins
    | _ => exact hsame
  | rx n b =>
    cases b with
    | ctrl =>
      unfold sideEffect
      dsimp only
      split
      · exact hsame
      · exact hsame
    | _ => exact hsame
  | _ => exact hsame

/-- Of the commands only RESET moves the pins by itself (R200, R381). -/
theorem pinsFollow_exec {i : Instr} {s t : State} (hcur : s.irqPrev = s.reg.effective) (he : exec i s = .next t)
    (hi : i ≠ .reset) : PinsFollow s t := by
  cases i with
  | reset => exact absurd rfl hi
  | rts nnn =>
    obtain rfl := Host.Outcome.next.inj he
    exact ((AddsFlags.refl hcur).requestToSend_adds nnn).pins
  | _ =>
    obtain rfl := Host.Outcome.next.inj he
    exact PinsFollow.refl s

/-! ### The events -/

/-- A byte moves the pins only with `irq_prev`, but for RESET and a data byte written to bfpctrl. -/
theorem pinsFollow_spiByte {b : Byte} {s t : State} (hcur : s.irqPrev = s.reg.effective) (h : spiByte b s = .next t) :
    PinsFollow s t ∨
      s.cs = .asserted ∧ (s.spi.state = .awaitingInstruction ∧ b = 0xC0 ∨
        (s.spi.state = .writingData ∨ s.spi.state = .modifyingData) ∧ s.spi.address = 0x0C) := by
  cases hcs : s.cs with
  | deasserted =>
    rw [spiByte_of_deasserted hcs] at h
    cases h
  | asserted =>
    simp only [spiByte, hcs, reduceCtorEq, if_false] at h
    cases hst : s.spi.state with
    | awaitingInstruction =>
      rw [hst] at h
      by_cases hi : decodeByte b = .reset
      · exact .inr ⟨rfl, .inl ⟨rfl, (decodeByte_eq_iff rfl b).1 hi⟩⟩
      · exact .inl (pinsFollow_exec hcur h hi)
    | writingData =>
      rw [hst] at h
      obtain rfl := Host.Outcome.next.inj h
      by_cases ha : s.spi.address = 0x0C
      · exact .inr ⟨rfl, .inr ⟨.inl rfl, ha⟩⟩
      · exact .inl (pinsFollow_update s.spi.address b hcur ha)
    | modifyingData =>
      rw [hst] at h
      obtain rfl := Host.Outcome.next.inj h
      by_cases ha : s.spi.address = 0x0C
      · exact .inr ⟨rfl, .inr ⟨.inr rfl, ha⟩⟩
      · exact .inl (pinsFollow_update s.spi.address (modifyMerge b s) hcur ha)
    | _ =>
      rw [hst] at h
      obtain rfl := Host.Outcome.next.inj h
      exact .inl (PinsFollow.refl s)

theorem pinsFollow_csAssert (s : State) : PinsFollow s (csAssert s) := by
  unfold csAssert
  split <;> exact PinsFollow.refl s

theorem pinsFollow_csDeassert (s : State) : PinsFollow s (csDeassert s) := by
  unfold csDeassert
  split
  · exact PinsFollow.refl s
  · dsimp only
    cases (s.setCs .deasserted).spi.rxMemo with
    | none => exact PinsFollow.refl s
    | some i =>
      exact (pinsFollow_irqRaise 0x00
        ((s.setCs .deasserted).setCanintf (setBit s.reg.canintf (rxifBit i) false))).congr rfl rfl rfl rfl

theorem pinsFollow_busRx (f : Frame) (s : State) : PinsFollow s (busRx f s) := by
  unfold busRx
  split
  · refine PinsFollow.congr (s := s) (t := (onFrame f s).2) ?_ rfl rfl rfl rfl
    unfold onFrame
    rcases onFrameWith_cases irqRaise f s with e | e | ⟨-, b, k, e⟩ | ⟨-, n, e⟩ <;> rw [e]
    · exact PinsFollow.refl s
    · exact pinsFollow_irqRaise flagWak s
    · exact (pinsFollow_irqRaise (flagRx b) (s.setRx b (storedBuffer f b k s.reg.rx[b]))).congr rfl rfl rfl rfl
    · exact (pinsFollow_irqRaise flagErr (s.setEflg (setBit s.reg.eflg (rxovrBit n) true))).congr rfl rfl rfl rfl
  · exact PinsFollow.refl s

/-- Settles O59: event by event the pins follow `irq_prev`, but for the three exceptions the statement names. -/
theorem bufferFullPinsHoldTheirLevel : Obligations.BufferFullPinsHoldTheirLevel := by
  intro s t hcurrent hstep hmoved
  have hirq : PinsFollow s t → t.irqPrev ≠ s.irqPrev := fun h e => by
    rw [h e] at hmoved
    exact hmoved.elim (absurd rfl) (absurd rfl)
  cases hp : s.pending with
  | nil =>
    rw [step, hp] at hstep
    obtain rfl := Host.Outcome.next.inj hstep
    exact .inl (hirq (.refl s))
  | cons e rest =>
    rw [step_of_pending_cons hp] at hstep
    cases e with
    | spiByte b =>
      rcases pinsFollow_spiByte (s := s.beginEvent rest) hcurrent.1 hstep with h | ⟨hcs, ⟨hst, rfl⟩ | ⟨hst, ha⟩⟩
      · exact .inl (hirq h)
      · exact .inr (.inr (.inl ⟨rest, hcs, hst, hp⟩))
      · exact .inr (.inr (.inr ⟨b, rest, hst.imp (fun h => ⟨hcs, h, hp⟩) fun h => ⟨hcs, h, hp⟩, ha⟩))
    | csAssert =>
      obtain rfl := Host.Outcome.next.inj hstep
      exact .inl (hirq (pinsFollow_csAssert (s.beginEvent rest)))
    | csDeassert =>
      obtain rfl := Host.Outcome.next.inj hstep
      exact .inl (hirq (pinsFollow_csDeassert (s.beginEvent rest)))
    | busRx f =>
      obtain rfl := Host.Outcome.next.inj hstep
      exact .inl (hirq (pinsFollow_busRx f (s.beginEvent rest)))
    | deviceReset => exact .inr (.inl ⟨rest, rfl⟩)

end Sys2Proof.Machine
end

section
/-! SUPPORT. The decoder against the opcode table (30_encoding.md, opening): the row law of the encoder, put together
over the constructors, is carried to every byte by the round trip of decoder and encoder. -/

namespace Sys2Proof

/-- The byte of a well-formed command fits the command's own row of the opcode table and no row before it. -/
theorem findIdx_opcodeTable_encodeByte {i : Instr} (hi : i.wellFormed = true) :
    opcodeTable.findIdx (fun r => encodeByte i &&& r.mask == r.pattern) = i.row := by
  cases i with
  | reset => exact Laws.EncodeRow.reset hi
  | read => exact Laws.EncodeRow.read hi
  | write => exact Laws.EncodeRow.write hi
  | bitmod => exact Laws.EncodeRow.bitmod hi
  | rdrxb n m => exact Laws.EncodeRow.rdrxb n m hi
  | ldtxbLow bc => exact Laws.EncodeRow.ldtxbLow bc hi
  | ldtxbHigh c => exact Laws.EncodeRow.ldtxbHigh c hi
  | rts nnn => exact Laws.EncodeRow.rts nnn hi
  | rdstat => exact Laws.EncodeRow.rdstat hi
  | rxstat => exact Laws.EncodeRow.rxstat hi
  | invalid b => exact Laws.EncodeRow.invalid b hi

/-- Settles O2: a byte is the encoding of the well-formed command it decodes to, so it belongs to that command's row. -/
theorem decoderFollowsOpcodeTable : Obligations.DecoderFollowsOpcodeTable := by
  intro b
  have hrow := findIdx_opcodeTable_encodeByte (decodeByte_wellFormed b)
  rwa [encodeByte_decodeByte] at hrow

end Sys2Proof
end
